-- ==== Sys2Proof/Word.lean ====
section
/-! DEFINITION. The three widths of unsigned numbers the spec uses (00_scope.md R8). -/

namespace Sys2Proof

/-- u8 of R8: one byte of a request, a response, a buffer or the wire. -/
abbrev Byte := BitVec 8

/-- u16 of R8: lengths and the CRC-16 register. -/
abbrev Half := BitVec 16

/-- u32 of R8: addresses, tick counts and the CRC-32 register. -/
abbrev Word := BitVec 32

end Sys2Proof
end

