-- ==== Sys2Proof/Config.lean ====
section
/-! DEFINITION. What one instance of the block fixes (00_scope.md R6, 93_implementation_defined.md part C).
No rule of the spec leaves a value undefined, so there is no free value here. -/

namespace Sys2Proof

/-- The parameters of R6 that are not fixed and that a rule reads. They are constants of an instance (10_state.md
R39): State carries them, no step writes them, and a statement over every state holds for every instance. Log 9. -/
structure Params where
  /-- RX_CAP, the bytes `rx_buf` holds. -/
  rxCap : Half
  /-- TX_CAP, the bytes `frame_buf` holds. -/
  txCap : Half
  /-- PPT_RESET, what the reset input leaves in `ppt` (decision D29). -/
  pptReset : Byte
  /-- TIMEOUT_RESET, what the reset input leaves in `cfg_timeout`. -/
  timeoutReset : Word
  /-- GRACE_RESET, what the reset input leaves in `cfg_grace`. -/
  graceReset : Word
  deriving DecidableEq, Repr

/-- The defaults of R6; every vector of 95_test_vectors.md uses them. -/
def Params.default : Params :=
  { rxCap := 1024, txCap := 1024, pptReset := 1, timeoutReset := 5000, graceReset := 1000 }

/-- The bounds of R6: RX_CAP 23 to 65535, TX_CAP 796 to 65535, PPT_RESET 1 to 3,
TIMEOUT_RESET 1 to 2^32-1, GRACE_RESET any. -/
abbrev Params.Legal (p : Params) : Prop :=
  23 ≤ p.rxCap.toNat ∧ 796 ≤ p.txCap.toNat ∧ 1 ≤ p.pptReset.toNat ∧ p.pptReset.toNat ≤ 3 ∧
    1 ≤ p.timeoutReset.toNat

end Sys2Proof
end

