-- ==== Sys2Proof/Syntax.lean ====
section
/-! DEFINITION. The instructions: one constructor per row of spec/opcode_table.json, twenty-two host operations and
five wire commands, with the status codes and parse results that decoding can answer. -/

namespace Sys2Proof

/-- The two encoding spaces of 30_encoding.md: host request strings, and wire frames with a `cmd_type`. -/
inductive Space where
  | host
  | wire
  deriving DecidableEq, Repr

/-- The operand formats of a host request (30_encoding.md R82). -/
inductive Format where
  | f0
  | f1
  | f4
  | f4b
  | f4n
  | fn
  | f1w
  deriving DecidableEq, Repr

/-- The status byte of a host response (60_exceptions.md R300). -/
inductive Status where
  | ok
  | illegalOp
  | badLength
  | badValue
  | busy
  | noFrame
  deriving DecidableEq, Repr

/-- What the frame parser finds (41_frame_codec.md R172); `h` is the header's offset, `len` the payload length. -/
inductive ParseResult where
  | waitHeader
  | waitBody (h len : Nat)
  | complete (h len : Nat) (cmd result : Byte)
  | badTerminator (h len : Nat)
  | badChecksum (h len : Nat)
  | tooShort (h len : Nat)
  deriving DecidableEq, Repr

/-- Why bytes decode to no instruction. -/
inductive DecodeError where
  /-- a host request the block refuses (30_encoding.md R83, R86) -/
  | refused (st : Status)
  /-- wire bytes in which no complete valid frame stands -/
  | notComplete (r : ParseResult)
  /-- a complete valid frame whose `cmd_type` is none of the five (30_encoding.md R93) -/
  | unknownCommand (cmd : Byte)
  deriving DecidableEq, Repr

/-- The instructions. A host operation's operands are those of its format (30_encoding.md R82); a data string's count
`n` is the string's length. A wire command's operands are the row's fields: payload byte 14, payload byte 15, and the
payload from byte 16 on (30_encoding.md R90; log 6). -/
inductive Instr where
  | crc32Init
  | crc32Update (b : Byte)
  | crc32Feed (d : List Byte)
  | crc32Read
  | crc16Init
  | crc16Update (b : Byte)
  | crc16Feed (d : List Byte)
  | crc16Read
  | encReset
  | encErase (a : Word) (c : Byte)
  | encProgram (a : Word) (d : List Byte)
  | encReadHeader (a : Word)
  | encReadUuid
  | frameLoad (d : List Byte)
  | frameRead
  | parse (d : List Byte)
  | xactStart (t : Word)
  | xactStatus
  | xactReadRx
  | xactReadFrame
  | cfgRead (idx : Byte)
  | cfgWrite (idx : Byte) (v : Word)
  | wireReset (result reserved : Byte) (data : List Byte)
  | wireErase (result reserved : Byte) (data : List Byte)
  | wireProgram (result reserved : Byte) (data : List Byte)
  | wireReadHeader (result reserved : Byte) (data : List Byte)
  | wireReadUuid (result reserved : Byte) (data : List Byte)
  deriving DecidableEq, Repr

end Sys2Proof
end

