-- ==== Sys2Proof/WellFormed.lean ====
section
/-! DEFINITION. Which terms of Instr some bytes encode: every count must fit its u16 (30_encoding.md R82, R88). -/

namespace Sys2Proof

/-- A data string whose length fits the u16 count `n` of host_FN and host_F4N (R82). -/
def countFits (d : List Byte) : Bool := d.length ≤ 65535

/-- Command data that keeps the payload length `L = 16 + len(data)` a u16 (R88, R90). -/
def payloadFits (data : List Byte) : Bool := 16 + data.length ≤ 65535

/-- The terms some bytes encode. Every other operand is of its field's width by its type. -/
def Instr.wellFormed : Instr → Bool
  | .crc32Init => true
  | .crc32Update _ => true
  | .crc32Feed d => countFits d
  | .crc32Read => true
  | .crc16Init => true
  | .crc16Update _ => true
  | .crc16Feed d => countFits d
  | .crc16Read => true
  | .encReset => true
  | .encErase _ _ => true
  | .encProgram _ d => countFits d
  | .encReadHeader _ => true
  | .encReadUuid => true
  | .frameLoad d => countFits d
  | .frameRead => true
  | .parse d => countFits d
  | .xactStart _ => true
  | .xactStatus => true
  | .xactReadRx => true
  | .xactReadFrame => true
  | .cfgRead _ => true
  | .cfgWrite _ _ => true
  | .wireReset _ _ data => payloadFits data
  | .wireErase _ _ data => payloadFits data
  | .wireProgram _ _ data => payloadFits data
  | .wireReadHeader _ _ data => payloadFits data
  | .wireReadUuid _ _ data => payloadFits data

/-- The encoding space an instruction belongs to. -/
def Instr.space : Instr → Space
  | .crc32Init => .host
  | .crc32Update _ => .host
  | .crc32Feed _ => .host
  | .crc32Read => .host
  | .crc16Init => .host
  | .crc16Update _ => .host
  | .crc16Feed _ => .host
  | .crc16Read => .host
  | .encReset => .host
  | .encErase _ _ => .host
  | .encProgram _ _ => .host
  | .encReadHeader _ => .host
  | .encReadUuid => .host
  | .frameLoad _ => .host
  | .frameRead => .host
  | .parse _ => .host
  | .xactStart _ => .host
  | .xactStatus => .host
  | .xactReadRx => .host
  | .xactReadFrame => .host
  | .cfgRead _ => .host
  | .cfgWrite _ _ => .host
  | .wireReset _ _ _ => .wire
  | .wireErase _ _ _ => .wire
  | .wireProgram _ _ _ => .wire
  | .wireReadHeader _ _ _ => .wire
  | .wireReadUuid _ _ _ => .wire

end Sys2Proof
end

