-- ==== Sys2Proof/Decode.lean ====
section
/-! DEFINITION. The encodings: byte strings, the host request decoder, the wire frame and its parser, the encoder, and
the reading of a word numbered as spec/opcode_table.json numbers it. -/

namespace Sys2Proof

/-! ### Byte strings (00_scope.md R8, R9) -/

/-- `le16(v)` of R9. -/
def le16 (v : Half) : List Byte := [v.extractLsb' 0 8, v.extractLsb' 8 8]

/-- `le32(v)` of R9. -/
def le32 (v : Word) : List Byte :=
  [v.extractLsb' 0 8, v.extractLsb' 8 8, v.extractLsb' 16 8, v.extractLsb' 24 8]

/-- `s[i]` of R8. The rules call it with `i < len(s)` only; past the end it is 0, which no rule reads. -/
def byteAt (s : List Byte) (i : Nat) : Byte := s.getD i 0

/-- `rd16(s, i)` of R9. -/
def rd16 (s : List Byte) (i : Nat) : Half :=
  (byteAt s i).setWidth 16 ||| ((byteAt s (i + 1)).setWidth 16 <<< 8)

/-- `rd32(s, i)` of R9. -/
def rd32 (s : List Byte) (i : Nat) : Word :=
  (byteAt s i).setWidth 32 ||| ((byteAt s (i + 1)).setWidth 32 <<< 8) |||
    ((byteAt s (i + 2)).setWidth 32 <<< 16) ||| ((byteAt s (i + 3)).setWidth 32 <<< 24)

/-- `s[a..a+n)` of R8. -/
def slice (s : List Byte) (a n : Nat) : List Byte := (s.drop a).take n

/-- A length as the u16 it is sent as. -/
def lenHalf (n : Nat) : Half := BitVec.ofNat 16 n

/-! ### Codes (30_encoding.md R94) -/

/-- The status byte (60_exceptions.md R300). -/
def Status.code : Status → Byte
  | .ok => 0x00
  | .illegalOp => 0x01
  | .badLength => 0x02
  | .badValue => 0x03
  | .busy => 0x04
  | .noFrame => 0x05

/-- The parse code (41_frame_codec.md R172). -/
def ParseResult.code : ParseResult → Byte
  | .waitHeader => 0
  | .waitBody _ _ => 1
  | .complete _ _ _ _ => 2
  | .badTerminator _ _ => 3
  | .badChecksum _ _ => 4
  | .tooShort _ _ => 5

/-! ### Host requests -/

/-- The request length a format gives (30_encoding.md R82, R87); the counted formats read `n` from the request. -/
def Format.requestLength (f : Format) (q : List Byte) : Nat :=
  match f with
  | .f0 => 1
  | .f1 => 2
  | .f4 => 5
  | .f4b => 6
  | .f4n => 7 + (rd16 q 5).toNat
  | .fn => 3 + (rd16 q 1).toNat
  | .f1w => 6

/-- The data string `d` of host_FN (R82). -/
def dataFN (q : List Byte) : List Byte := slice q 3 (rd16 q 1).toNat

/-- The data string `d` of host_F4N (R82). -/
def dataF4N (q : List Byte) : List Byte := slice q 7 (rd16 q 5).toNat

/-- The host opcode map (30_encoding.md R85): an opcode's format and its operands by their positions in the request
(R82, R84). Every other opcode is illegal (R86). -/
def hostRow (opc : Byte) : Option (Format × (List Byte → Instr)) :=
  match opc with
  | 0x01#8 => some (.f0, fun _ => .crc32Init)
  | 0x02#8 => some (.f1, fun q => .crc32Update (byteAt q 1))
  | 0x03#8 => some (.fn, fun q => .crc32Feed (dataFN q))
  | 0x04#8 => some (.f0, fun _ => .crc32Read)
  | 0x05#8 => some (.f0, fun _ => .crc16Init)
  | 0x06#8 => some (.f1, fun q => .crc16Update (byteAt q 1))
  | 0x07#8 => some (.fn, fun q => .crc16Feed (dataFN q))
  | 0x08#8 => some (.f0, fun _ => .crc16Read)
  | 0x10#8 => some (.f0, fun _ => .encReset)
  | 0x11#8 => some (.f4b, fun q => .encErase (rd32 q 1) (byteAt q 5))
  | 0x12#8 => some (.f4n, fun q => .encProgram (rd32 q 1) (dataF4N q))
  | 0x13#8 => some (.f4, fun q => .encReadHeader (rd32 q 1))
  | 0x14#8 => some (.f0, fun _ => .encReadUuid)
  | 0x15#8 => some (.fn, fun q => .frameLoad (dataFN q))
  | 0x16#8 => some (.f0, fun _ => .frameRead)
  | 0x17#8 => some (.fn, fun q => .parse (dataFN q))
  | 0x20#8 => some (.f4, fun q => .xactStart (rd32 q 1))
  | 0x21#8 => some (.f0, fun _ => .xactStatus)
  | 0x22#8 => some (.f0, fun _ => .xactReadRx)
  | 0x23#8 => some (.f0, fun _ => .xactReadFrame)
  | 0x30#8 => some (.f1, fun q => .cfgRead (byteAt q 1))
  | 0x31#8 => some (.f1w, fun q => .cfgWrite (byteAt q 1) (rd32 q 2))
  | _ => none

/-- Decoding a host request: the opcode first (ILLEGAL_OP whatever the length, R83, R86), then the exact length
(BAD_LENGTH, R83), an empty request being BAD_LENGTH (R80). Total on any byte string. -/
def decodeRequest (q : List Byte) : Except Status Instr :=
  match q with
  | [] => .error .badLength
  | opc :: _ =>
    match hostRow opc with
    | none => .error .illegalOp
    | some (f, operands) =>
      if q.length = f.requestLength q then .ok (operands q) else .error .badLength

/-! ### Wire frames (30_encoding.md R88 to R90, 41_frame_codec.md R160 to R162) -/

/-- The frame header `00 00 FF` (R88). -/
def frameHeader : List Byte := [0x00, 0x00, 0xFF]

/-- SADDR, TADDR and SNQ, the fixed first 13 bytes of a payload (R90). -/
def payloadPrefix : List Byte :=
  [0x05, 0xFF, 0xFF, 0xFF, 0xFF, 0xFF, 0x06, 0xFF, 0xFF, 0xFF, 0xFF, 0xFF, 0x01]

/-- The command codes (R91). -/
def cmdReset : Byte := 0xCA
def cmdErase : Byte := 0xCB
def cmdProgram : Byte := 0xCC
def cmdReadHeader : Byte := 0xCD
def cmdReadUuid : Byte := 0xCE

/-- The byte sum of a string modulo 256 (R161). -/
def byteSum : List Byte → Byte
  | [] => 0
  | b :: t => b + byteSum t

/-- `Dcs(payload)` (R161). -/
def dcs (payload : List Byte) : Byte := 0 - byteSum payload

/-- The payload of R90 for a command code, payload bytes 14 and 15, and the command data. -/
def wirePayload (cmd result reserved : Byte) (data : List Byte) : List Byte :=
  payloadPrefix ++ [cmd, result, reserved] ++ data

/-- The frame of R88 around a payload. -/
def frameOf (payload : List Byte) : List Byte :=
  frameHeader ++ le16 (lenHalf payload.length) ++ payload ++ [dcs payload] ++ [0x00]

/-- The frame of a wire command with the given result and reserved bytes. -/
def wireFrame (cmd result reserved : Byte) (data : List Byte) : List Byte :=
  frameOf (wirePayload cmd result reserved data)

/-- `Build(cmd, data)` (41_frame_codec.md R162): a request carries 0x00 at payload bytes 14 and 15 (R160). -/
def build (cmd : Byte) (data : List Byte) : List Byte := wireFrame cmd 0x00 0x00 data

/-! ### The parser (41_frame_codec.md R173 to R176) -/

/-- The offset of the first `00 00 FF` (R173). -/
def findHeader : List Byte → Option Nat
  | [] => none
  | b :: t => if (b :: t).take 3 = frameHeader then some 0 else (findHeader t).map (· + 1)

/-- The checks of R175 and the extraction of R176, once the body of the frame at `h` is complete. -/
def validate (s : List Byte) (h len : Nat) : ParseResult :=
  let p := slice s (h + 5) len
  if byteAt s (h + 6 + len) ≠ 0x00 then .badTerminator h len
  else if byteSum p + byteAt s (h + 5 + len) ≠ 0 then .badChecksum h len
  else if len < 16 then .tooShort h len
  else .complete h len (byteAt p 13) (byteAt p 14)

/-- `Parse(s)`: header search (R173), length decode and body wait (R174), validation (R175, R176). -/
def parseFrame (s : List Byte) : ParseResult :=
  match findHeader s with
  | none => .waitHeader
  | some h =>
    if s.length < h + 5 then .waitHeader
    else
      let len := (rd16 s (h + 3)).toNat
      if s.length < h + 7 + len then .waitBody h len else validate s h len

/-- The wire command a `cmd_type` names (R91), for its result byte, reserved byte and data; none for the other 251
values (R93). -/
def wireRow (cmd : Byte) : Option (Byte → Byte → List Byte → Instr) :=
  match cmd with
  | 0xCA#8 => some .wireReset
  | 0xCB#8 => some .wireErase
  | 0xCC#8 => some .wireProgram
  | 0xCD#8 => some .wireReadHeader
  | 0xCE#8 => some .wireReadUuid
  | _ => none

/-- The wire command of a complete frame at `h` with payload length `len`: the fields of its payload (R90). SADDR, TADDR
and SNQ are not checked (R93). -/
def wireInstr (s : List Byte) (h len : Nat) (cmd result : Byte) : Option Instr :=
  let p := slice s (h + 5) len
  (wireRow cmd).map fun mk => mk result (byteAt p 15) (p.drop 16)

/-- Decoding wire bytes: the command of the first frame that stands in them. Total on any byte string. -/
def decodeFrame (s : List Byte) : Except DecodeError Instr :=
  match parseFrame s with
  | .complete h len cmd result =>
    match wireInstr s h len cmd result with
    | some i => .ok i
    | none => .error (.unknownCommand cmd)
  | .waitHeader => .error (.notComplete .waitHeader)
  | .waitBody h len => .error (.notComplete (.waitBody h len))
  | .badTerminator h len => .error (.notComplete (.badTerminator h len))
  | .badChecksum h len => .error (.notComplete (.badChecksum h len))
  | .tooShort h len => .error (.notComplete (.tooShort h len))

/-- Decoding in either space. -/
def decode (sp : Space) (bs : List Byte) : Except DecodeError Instr :=
  match sp with
  | .host =>
    match decodeRequest bs with
    | .ok i => .ok i
    | .error st => .error (.refused st)
  | .wire => decodeFrame bs

/-! ### The encoder -/

/-- The counted data of host_FN and host_F4N (30_encoding.md R82). -/
def counted (d : List Byte) : List Byte := le16 (lenHalf d.length) ++ d

/-- The bytes of an instruction: the request strings of 30_encoding.md R95, and the frames of R88 to R91. -/
def encode : Instr → List Byte
  | .crc32Init => [0x01]
  | .crc32Update b => [0x02, b]
  | .crc32Feed d => 0x03 :: counted d
  | .crc32Read => [0x04]
  | .crc16Init => [0x05]
  | .crc16Update b => [0x06, b]
  | .crc16Feed d => 0x07 :: counted d
  | .crc16Read => [0x08]
  | .encReset => [0x10]
  | .encErase a c => 0x11 :: (le32 a ++ [c])
  | .encProgram a d => 0x12 :: (le32 a ++ counted d)
  | .encReadHeader a => 0x13 :: le32 a
  | .encReadUuid => [0x14]
  | .frameLoad d => 0x15 :: counted d
  | .frameRead => [0x16]
  | .parse d => 0x17 :: counted d
  | .xactStart t => 0x20 :: le32 t
  | .xactStatus => [0x21]
  | .xactReadRx => [0x22]
  | .xactReadFrame => [0x23]
  | .cfgRead idx => [0x30, idx]
  | .cfgWrite idx v => 0x31 :: idx :: le32 v
  | .wireReset result reserved data => wireFrame cmdReset result reserved data
  | .wireErase result reserved data => wireFrame cmdErase result reserved data
  | .wireProgram result reserved data => wireFrame cmdProgram result reserved data
  | .wireReadHeader result reserved data => wireFrame cmdReadHeader result reserved data
  | .wireReadUuid result reserved data => wireFrame cmdReadUuid result reserved data

/-! ### Words numbered as spec/opcode_table.json numbers them (log 5) -/

/-- `n` bytes of a word, the least significant first. -/
def wordBytes : Nat → Nat → List Byte
  | 0, _ => []
  | n + 1, w => BitVec.ofNat 8 w :: wordBytes n (w / 256)

/-- A request that begins with the given bytes, filled up with zero operand bytes to the length its format gives. -/
def tableRequest (bs : List Byte) : List Byte :=
  match bs with
  | [] => []
  | opc :: _ =>
    match hostRow opc with
    | none => bs
    | some (f, _) => bs ++ List.replicate (f.requestLength bs - bs.length) 0x00

/-- How many data bytes the smallest request of a wire command has (30_encoding.md R92). -/
def wireDataLength (cmd : Byte) : Option Nat :=
  match cmd with
  | 0xCA#8 => some 0
  | 0xCB#8 => some 5
  | 0xCC#8 => some 5
  | 0xCD#8 => some 4
  | 0xCE#8 => some 0
  | _ => none

/-- The frame of a wire command whose payload from byte 13 on begins with the given bytes, filled up with zeros to the
smallest request of that command. -/
def tableFrame (bs : List Byte) : Option (List Byte) :=
  match bs with
  | [] => none
  | cmd :: rest =>
    (wireDataLength cmd).map fun k =>
      let tail := rest ++ List.replicate (2 + k - rest.length) 0x00
      wireFrame cmd (byteAt tail 0) (byteAt tail 1) (tail.drop 2)

/-- The instruction whose bits are `w`, numbered as the opcode table numbers them: a row of the wire space where the
first byte is a wire command code, else a host request. The two spaces share no code (30_encoding.md R85, R91). -/
def decodeTableWord (nbits w : Nat) : Option Instr :=
  let bs := wordBytes ((nbits + 7) / 8) w
  match tableFrame bs with
  | some f => (decodeFrame f).toOption
  | none => (decodeRequest (tableRequest bs)).toOption

end Sys2Proof
end

