-- ==== Sys2Proof/Machine/State.lean ====
section
/-! DEFINITION. The state of the block (10_state.md R22 to R40), the reasons a step can stop, and the state after
reset (70_reset_and_hazards.md R340). -/

namespace Sys2Proof.Machine

open Sys2Proof

/-- The contents of one internal buffer (20_memory.md R60): the bytes written so far, by index, strictly rising. An
index not listed has no value (log 7). -/
abbrev Memory := List Host.Cell

/-- The correlator state (10_state.md R30). -/
inductive CState where
  /-- no transaction since reset -/
  | idle
  /-- a frame has been sent and its response is being accumulated -/
  | waiting
  /-- the last transaction has ended -/
  | done
  deriving DecidableEq, Repr

/-- The classification of the last transaction (10_state.md R31, 60_exceptions.md R303). -/
inductive XactOutcome where
  | none
  | success
  | commandError
  | noResponse
  | timeout
  | checksumMismatch
  | frameMalformed
  deriving DecidableEq, Repr

/-- What the environment delivers: a host request, a byte on the RX line, a tick, or the reset input (00_scope.md R7).
Log 1. -/
inductive Input where
  | request (q : List Byte)
  | rxByte (b : Byte)
  | tick
  | reset
  deriving DecidableEq, Repr

/-- Why the machine stops with a fault. A state that meets `State.Inv` (Safety.lean) reaches none of them. -/
inductive Fault where
  /-- `bufRead` was asked for an index at or above the buffer's valid length (20_memory.md R62). Safe. -/
  | bufReadOutOfBounds (index : Nat)
  /-- `bufWrite` was asked for an index at or above the buffer's capacity (20_memory.md R62). Safe. -/
  | bufWriteOutOfBounds (index : Nat)
  /-- `bufRead` met an index below the valid length that holds no byte (log 7). Safe. -/
  | unwrittenByte (index : Nat)
  /-- XACT_READ_FRAME found no complete frame although the outcome says there is one (42_correlator.md R225: "always
  COMPLETE here"; log 12). Safe. -/
  | noCompleteFrame
  deriving DecidableEq, Repr

/-- Why an instruction has no meaning. -/
inductive Refusal where
  /-- Raised by exec's arm for an instruction not modelled yet; no arm raises it. Safe. -/
  | notModelled (mnemonic : String)
  deriving DecidableEq, Repr

/-- The state. The fields down to `txTrace` are 10_state.md R40 (the output `done` is `State.doneOut`); `params` are the
instance's constants (R39); `inputs` and `responses` are the model's own (log 1, log 2). -/
structure State where
  /-- running CRC-32 register, uncomplemented (R22) -/
  crc32 : Word
  /-- running CRC-16/XMODEM register (R23) -/
  crc16 : Half
  /-- configuration 0, pages per transfer (R24) -/
  ppt : Byte
  /-- configuration 1, the default timeout in ticks (R25) -/
  cfgTimeout : Word
  /-- configuration 2, the desynchronisation grace in ticks (R26) -/
  cfgGrace : Word
  /-- the frame buffer and how many of its bytes are valid (R27) -/
  frameBuf : Memory
  frameLen : Half
  /-- the receive buffer and how many bytes have been stored (R28) -/
  rxBuf : Memory
  rxLen : Half
  /-- bytes received in the current transaction, dropped ones too (R29) -/
  rxTotal : Word
  /-- the correlator state (R30) -/
  cstate : CState
  /-- the classification of the last transaction (R31) -/
  outcome : XactOutcome
  /-- the diagnostic bits (R32) -/
  flags : Byte
  /-- payload bytes 13 and 14 of the completing response (R33) -/
  respCmd : Byte
  respResult : Byte
  /-- ticks since the transaction started (R34) -/
  elapsed : Word
  /-- ticks since the last byte or the start (R35) -/
  silence : Word
  /-- the timeout and grace latched by XACT_START (R36) -/
  xTimeout : Word
  xGrace : Word
  /-- the bytes put on the TX line since the model started (R37) -/
  txTrace : List Byte
  /-- the instance's constants (R39) -/
  params : Params
  /-- what the environment has still to deliver, oldest first -/
  inputs : List Input
  /-- the responses given so far, oldest first (30_encoding.md R81) -/
  responses : List (List Byte)
  deriving DecidableEq, Repr

/-- The block after power-on or reset (R40, R340) in an instance with the default parameters, before anything has been
delivered to it. -/
def State.reset : State where
  crc32 := 0xFFFFFFFF
  crc16 := 0x0000
  ppt := 1
  cfgTimeout := 5000
  cfgGrace := 1000
  frameBuf := []
  frameLen := 0
  rxBuf := []
  rxLen := 0
  rxTotal := 0
  cstate := .idle
  outcome := .none
  flags := 0x00
  respCmd := 0
  respResult := 0
  elapsed := 0
  silence := 0
  xTimeout := 0
  xGrace := 0
  txTrace := []
  params := Params.default
  inputs := []
  responses := []

end Sys2Proof.Machine
end

