-- ==== Sys2Proof/Machine/Flags.lean ====
section
/-! DEFINITION. The status-like state (10_state.md R41): codes, the bits of `flags`, and how an outcome is chosen. -/

namespace Sys2Proof.Machine

open Sys2Proof

/-- The code of `cstate` (10_state.md R30). -/
def CState.code : CState → Byte
  | .idle => 0
  | .waiting => 1
  | .done => 2

/-- The code of `outcome` (10_state.md R31). -/
def XactOutcome.code : XactOutcome → Byte
  | .none => 0
  | .success => 1
  | .commandError => 2
  | .noResponse => 3
  | .timeout => 4
  | .checksumMismatch => 5
  | .frameMalformed => 6

/-- The bits of `flags` (10_state.md R32); bits 7:4 are reserved and no rule sets them. -/
def flagDesync : Byte := 0x01
def flagOverflow : Byte := 0x02
def flagBadTerminator : Byte := 0x04
def flagTooShort : Byte := 0x08

/-- Setting one bit; the others stay (R32: "A bit, once set, stays set until the next XACT_START or reset"). -/
def setFlag (flags bit : Byte) : Byte := flags ||| bit

/-- SUCCESS or COMMAND_ERROR, by the result byte of a complete frame (42_correlator.md R226). -/
def completeOutcome (result : Byte) : XactOutcome := if result = 0 then .success else .commandError

/-- NO_RESPONSE or TIMEOUT, by the bytes received before the timeout (42_correlator.md R227). -/
def timeoutOutcome (rxTotal : Word) : XactOutcome := if rxTotal = 0 then .noResponse else .timeout

/-- The outcomes after which XACT_READ_FRAME has a frame to give (42_correlator.md R225). -/
def XactOutcome.hasFrame : XactOutcome → Bool
  | .none => false
  | .success => true
  | .commandError => true
  | .noResponse => false
  | .timeout => false
  | .checksumMismatch => false
  | .frameMalformed => false

/-- `sat32(x + 1)` (00_scope.md R9). -/
def satInc (x : Word) : Word := BitVec.ofNat 32 (min (x.toNat + 1) (2 ^ 32 - 1))

/-- The output `done` (10_state.md R38, 60_exceptions.md R307). -/
def State.doneOut (s : State) : Bool := s.cstate = .done

end Sys2Proof.Machine
end

