-- ==== Sys2Proof/Machine/Ops.lean ====
section
/-! DEFINITION. The named operations over buffers and state. There are no exceptions to take (60_exceptions.md R304): a
refused operation answers its status byte and changes nothing else (`State.fail`, R301). -/

namespace Sys2Proof.Machine

open Sys2Proof

/-! ### Buffer contents (20_memory.md R60, R62) -/

/-- The byte at an index; none where nothing has been written. -/
def Memory.read (m : Memory) (a : Nat) : Option Byte :=
  match m with
  | [] => none
  | (k, v) :: t => if a = k then some v else Memory.read t a

/-- The contents with one byte set, in canonical form. -/
def Memory.write (m : Memory) (a : Nat) (b : Byte) : Memory :=
  match m with
  | [] => [(a, b)]
  | (k, v) :: t =>
    if a = k then (a, b) :: t
    else if a < k then (a, b) :: (k, v) :: t
    else (k, v) :: Memory.write t a b

/-- The canonical form: indices strictly rising. -/
def Memory.wf (m : Memory) : Bool :=
  match m with
  | [] => true
  | [_] => true
  | (k, _) :: (k', v') :: t => decide (k < k') && Memory.wf ((k', v') :: t)

/-- Every listed index lies below the capacity. -/
def Memory.below (m : Memory) (cap : Nat) : Bool := m.all fun c => decide (c.1 < cap)

/-- `BufRead(buf, i)` (R62), `len` being the buffer's valid length. -/
def bufRead (len : Half) (m : Memory) (i : Nat) : Except Fault Byte :=
  if i < len.toNat then
    match m.read i with
    | some b => .ok b
    | none => .error (.unwrittenByte i)
  else .error (.bufReadOutOfBounds i)

/-- `BufWrite(buf, i, b)` (R62), `cap` being the buffer's capacity. -/
def bufWrite (cap : Half) (m : Memory) (i : Nat) (b : Byte) : Except Fault Memory :=
  if i < cap.toNat then .ok (m.write i b) else .error (.bufWriteOutOfBounds i)

/-- `buf[i..i+n)`, read in index order. -/
def bufReadN (len : Half) (m : Memory) (i n : Nat) : Except Fault (List Byte) :=
  match n with
  | 0 => .ok []
  | n + 1 =>
    match bufRead len m i with
    | .error e => .error e
    | .ok b =>
      match bufReadN len m (i + 1) n with
      | .error e => .error e
      | .ok bs => .ok (b :: bs)

/-- The loop of WriteFrame (41_frame_codec.md R164): a string stored in index order from `i` on. -/
def bufWriteAll (cap : Half) (m : Memory) (i : Nat) (bs : List Byte) : Except Fault Memory :=
  match bs with
  | [] => .ok m
  | b :: t =>
    match bufWrite cap m i b with
    | .error e => .error e
    | .ok m' => bufWriteAll cap m' (i + 1) t

/-- `frame_buf[0..frame_len)`. -/
def State.frameBytes (s : State) : Except Fault (List Byte) := bufReadN s.frameLen s.frameBuf 0 s.frameLen.toNat

/-- `rx_buf[0..rx_len)`. -/
def State.rxBytes (s : State) : Except Fault (List Byte) := bufReadN s.rxLen s.rxBuf 0 s.rxLen.toNat

/-! ### Responses (30_encoding.md R81) -/

/-- `respond(bytes)` (00_scope.md R9): status OK, then the results. -/
def State.respond (s : State) (bytes : List Byte) : State :=
  { s with responses := s.responses ++ [Status.ok.code :: bytes] }

/-- `fail <Status>` (00_scope.md R9): a one-byte response and nothing else (60_exceptions.md R301). -/
def State.fail (s : State) (st : Status) : State := { s with responses := s.responses ++ [[st.code]] }

/-! ### Named updates, each of the fields one rule writes together -/

/-- The environment's list after its oldest element has been taken. -/
def State.withInputs (s : State) (inputs : List Input) : State := { s with inputs := inputs }

def State.setCrc32 (s : State) (c : Word) : State := { s with crc32 := c }

def State.setCrc16 (s : State) (c : Half) : State := { s with crc16 := c }

def State.setPpt (s : State) (v : Byte) : State := { s with ppt := v }

def State.setCfgTimeout (s : State) (v : Word) : State := { s with cfgTimeout := v }

def State.setCfgGrace (s : State) (v : Word) : State := { s with cfgGrace := v }

/-- A new frame buffer and its valid length (41_frame_codec.md R164). -/
def State.setFrame (s : State) (m : Memory) (len : Half) : State := { s with frameBuf := m, frameLen := len }

/-- A new receive buffer and its valid length (42_correlator.md R226). -/
def State.setRx (s : State) (m : Memory) (len : Half) : State := { s with rxBuf := m, rxLen := len }

/-- A bit of `flags` set. -/
def State.mark (s : State) (bit : Byte) : State := { s with flags := setFlag s.flags bit }

/-- `emit(s)` (00_scope.md R9). -/
def State.emit (s : State) (bytes : List Byte) : State := { s with txTrace := s.txTrace ++ bytes }

/-- The counters an arriving byte moves while WAITING (42_correlator.md R226). -/
def State.countByte (s : State) : State := { s with rxTotal := satInc s.rxTotal, silence := 0 }

/-- The counters a tick moves while WAITING (42_correlator.md R227). -/
def State.countTick (s : State) : State := { s with elapsed := satInc s.elapsed, silence := satInc s.silence }

/-- The end of a transaction: an outcome, and DONE (42_correlator.md R221). -/
def State.finish (s : State) (o : XactOutcome) : State := { s with outcome := o, cstate := .done }

/-- The end of a transaction by a complete frame (42_correlator.md R226). -/
def State.complete (s : State) (cmd result : Byte) : State :=
  { s with respCmd := cmd, respResult := result, outcome := completeOutcome result, cstate := .done }

/-- The writes of XACT_START after the frame has been emitted (42_correlator.md R222), `t` being the timeout to latch. -/
def State.arm (s : State) (t : Word) : State :=
  { s with rxLen := 0, rxTotal := 0, elapsed := 0, silence := 0, flags := 0x00, outcome := .none, respCmd := 0,
           respResult := 0, xTimeout := t, xGrace := s.cfgGrace, cstate := .waiting }

/-- The reset input (70_reset_and_hazards.md R340). The buffers' contents are forgotten (log 8); the TX trace, the
instance's constants, the responses given and what the environment has still to deliver stay. -/
def State.resetInput (s : State) : State :=
  { State.reset with
    ppt := s.params.pptReset, cfgTimeout := s.params.timeoutReset, cfgGrace := s.params.graceReset
    txTrace := s.txTrace, params := s.params, inputs := s.inputs, responses := s.responses }

/-! ### Shared operations -/

/-- Storing a frame in `frame_buf` (41_frame_codec.md R163, R164, R170): refused BAD_VALUE when it exceeds TX_CAP, else
the previous frame is replaced and the length is the result. -/
def storeFrame (f : List Byte) (s : State) : Host.Outcome State Fault Refusal :=
  if s.params.txCap.toNat < f.length then .next (s.fail .badValue)
  else
    match bufWriteAll s.params.txCap s.frameBuf 0 f with
    | .error e => .fault e
    | .ok m => .next ((s.setFrame m (lenHalf f.length)).respond (le16 (lenHalf f.length)))

/-- A read that answers a length and a byte string (41_frame_codec.md R171, 42_correlator.md R224, R225). -/
def answerBytes (s : State) (r : Except Fault (List Byte)) : Host.Outcome State Fault Refusal :=
  match r with
  | .error e => .fault e
  | .ok bs => .next (s.respond (le16 (lenHalf bs.length) ++ bs))

/-- What a wire command does in the block once its frame is complete: it ends the transaction in progress
(42_correlator.md R226); outside WAITING nothing is accumulated and it has no effect. Log 4. -/
def acceptCommand (cmd result : Byte) (s : State) : Host.Outcome State Fault Refusal :=
  if s.cstate = .waiting then .next (s.complete cmd result) else .next s

end Sys2Proof.Machine
end

