-- ==== Sys2Proof/Machine/Operands.lean ====
section
/-! DEFINITION. What operands select: the page count, the timeout, the configuration registers, and the answer of PARSE. The operands themselves
are cut out of the request in Decode.lean (30_encoding.md R82, R84). -/

namespace Sys2Proof.Machine

open Sys2Proof

/-- The page size (00_scope.md R6). -/
def pageSize : Nat := 256

/-- `min(ceil(n / 256), ppt)` (41_frame_codec.md R167). -/
def pageCount (n : Nat) (ppt : Byte) : Byte := BitVec.ofNat 8 (min ((n + (pageSize - 1)) / pageSize) ppt.toNat)

/-- The timeout XACT_START latches: its operand, or `cfg_timeout` for 0 (42_correlator.md R222). -/
def timeoutOperand (t : Word) (s : State) : Word := if t = 0 then s.cfgTimeout else t

/-- A configuration register's 32-bit value (43_config.md R280, R286); none for an index of 5 or more. -/
def configValue (idx : Byte) (s : State) : Option Word :=
  match idx with
  | 0#8 => some (s.ppt.setWidth 32)
  | 1#8 => some s.cfgTimeout
  | 2#8 => some s.cfgGrace
  | 3#8 => some (s.params.rxCap.setWidth 32)
  | 4#8 => some (s.params.txCap.setWidth 32)
  | _ => none

/-- The state after a legal configuration write; none where the write is refused (43_config.md R285, R287). -/
def configWrite (idx : Byte) (v : Word) (s : State) : Option State :=
  match idx with
  | 0#8 => if v = 1 ∨ v = 2 ∨ v = 3 then some (s.setPpt (v.extractLsb' 0 8)) else none
  | 1#8 => if v = 0 then none else some (s.setCfgTimeout v)
  | 2#8 => some (s.setCfgGrace v)
  | _ => none

/-- The fields of a parse result, 0 for those it does not have (41_frame_codec.md R177), as PARSE answers them. -/
def parseAnswer (r : ParseResult) : List Byte :=
  match r with
  | .waitHeader => r.code :: (le16 0 ++ le16 0 ++ [0, 0])
  | .waitBody h len => r.code :: (le16 (lenHalf h) ++ le16 (lenHalf len) ++ [0, 0])
  | .complete h len cmd result => r.code :: (le16 (lenHalf h) ++ le16 (lenHalf len) ++ [cmd, result])
  | .badTerminator h len => r.code :: (le16 (lenHalf h) ++ le16 (lenHalf len) ++ [0, 0])
  | .badChecksum h len => r.code :: (le16 (lenHalf h) ++ le16 (lenHalf len) ++ [0, 0])
  | .tooShort h len => r.code :: (le16 (lenHalf h) ++ le16 (lenHalf len) ++ [0, 0])

/-- The answer of XACT_STATUS (42_correlator.md R223). -/
def statusAnswer (s : State) : List Byte :=
  [s.cstate.code, s.outcome.code, s.flags, s.respCmd, s.respResult] ++ le16 s.rxLen ++ le32 s.rxTotal ++ le32 s.elapsed

end Sys2Proof.Machine
end

