-- ==== Sys2Proof/Machine/Codec.lean ====
section
/-! DEFINITION. The frame encoder, the frame buffer and PARSE (41_frame_codec.md). -/

namespace Sys2Proof.Machine

open Sys2Proof

/-- ENC_RESET (R165). -/
def execEncReset (s : State) : Host.Outcome State Fault Refusal := storeFrame (build cmdReset []) s

/-- ENC_ERASE (R166). -/
def execEncErase (a : Word) (c : Byte) (s : State) : Host.Outcome State Fault Refusal :=
  storeFrame (build cmdErase (le32 a ++ [c])) s

/-- ENC_PROGRAM (R167). -/
def execEncProgram (a : Word) (d : List Byte) (s : State) : Host.Outcome State Fault Refusal :=
  storeFrame (build cmdProgram (le32 a ++ [pageCount d.length s.ppt] ++ d)) s

/-- ENC_READ_HEADER (R168). -/
def execEncReadHeader (a : Word) (s : State) : Host.Outcome State Fault Refusal :=
  storeFrame (build cmdReadHeader (le32 a)) s

/-- ENC_READ_UUID (R169). -/
def execEncReadUuid (s : State) : Host.Outcome State Fault Refusal := storeFrame (build cmdReadUuid []) s

/-- FRAME_LOAD (R170). -/
def execFrameLoad (d : List Byte) (s : State) : Host.Outcome State Fault Refusal := storeFrame d s

/-- FRAME_READ (R171). -/
def execFrameRead (s : State) : Host.Outcome State Fault Refusal := answerBytes s s.frameBytes

/-- PARSE (R177). -/
def execParse (d : List Byte) (s : State) : Host.Outcome State Fault Refusal :=
  if s.params.rxCap.toNat < d.length then .next (s.fail .badValue)
  else .next (s.respond (parseAnswer (parseFrame d)))

end Sys2Proof.Machine
end

