-- ==== Sys2Proof/Machine/ConfigRegs.lean ====
section
/-! DEFINITION. The configuration registers (43_config.md). -/

namespace Sys2Proof.Machine

open Sys2Proof

/-- CFG_READ (R286). -/
def execCfgRead (idx : Byte) (s : State) : Host.Outcome State Fault Refusal :=
  match configValue idx s with
  | some v => .next (s.respond (le32 v))
  | none => .next (s.fail .badValue)

/-- CFG_WRITE (R287). -/
def execCfgWrite (idx : Byte) (v : Word) (s : State) : Host.Outcome State Fault Refusal :=
  match configWrite idx v s with
  | some t => .next (t.respond [])
  | none => .next (s.fail .badValue)

end Sys2Proof.Machine
end

