-- ==== Sys2Proof/Machine/Correlator.lean ====
section
/-! DEFINITION. The host operations of the transport correlator and its TICK event (42_correlator.md). The RX_BYTE event
is in Fetch.lean, because the byte that completes a frame is what runs a wire command. -/

namespace Sys2Proof.Machine

open Sys2Proof

/-- XACT_START (R222), its refusals in the order of 60_exceptions.md R302. -/
def execXactStart (t : Word) (s : State) : Host.Outcome State Fault Refusal :=
  if s.cstate = .waiting then .next (s.fail .busy)
  else if s.frameLen = 0 then .next (s.fail .noFrame)
  else
    match s.frameBytes with
    | .error e => .fault e
    | .ok f => .next (((s.emit f).arm (timeoutOperand t s)).respond [])

/-- XACT_STATUS (R223). -/
def execXactStatus (s : State) : Host.Outcome State Fault Refusal := .next (s.respond (statusAnswer s))

/-- XACT_READ_RX (R224). -/
def execXactReadRx (s : State) : Host.Outcome State Fault Refusal := answerBytes s s.rxBytes

/-- The complete frame in `rx_buf`, from its header on (R225). -/
def State.rxFrame (s : State) : Except Fault (List Byte) :=
  match s.rxBytes with
  | .error e => .error e
  | .ok bs =>
    match parseFrame bs with
    | .complete h len _ _ => .ok (slice bs h (len + 7))
    | .waitHeader => .error .noCompleteFrame
    | .waitBody _ _ => .error .noCompleteFrame
    | .badTerminator _ _ => .error .noCompleteFrame
    | .badChecksum _ _ => .error .noCompleteFrame
    | .tooShort _ _ => .error .noCompleteFrame

/-- XACT_READ_FRAME (R225). -/
def execXactReadFrame (s : State) : Host.Outcome State Fault Refusal :=
  if s.outcome.hasFrame then answerBytes s s.rxFrame else .next (s.fail .noFrame)

/-- `Desync(S)` (R228). The first three stored bytes are read only where the other conditions leave it to them. -/
def State.desync (s : State) : Except Fault Bool :=
  if s.xGrace ≠ 0 ∧ 3 ≤ s.rxLen.toNat ∧ s.xGrace.toNat ≤ s.silence.toNat then
    match bufReadN s.rxLen s.rxBuf 0 3 with
    | .error e => .error e
    | .ok bs => .ok (decide (bs ≠ frameHeader))
  else .ok false

/-- The tests of TICK after its increments: the timeout first, then the desynchronisation (R227). -/
def State.expire (s : State) : Except Fault State :=
  if s.xTimeout.toNat ≤ s.elapsed.toNat then .ok (s.finish (timeoutOutcome s.rxTotal))
  else
    match s.desync with
    | .error e => .error e
    | .ok true => .ok ((s.finish .timeout).mark flagDesync)
    | .ok false => .ok s

/-- TICK (R227). -/
def State.tick (s : State) : Except Fault State := if s.cstate = .waiting then s.countTick.expire else .ok s

end Sys2Proof.Machine
end

