-- ==== Sys2Proof/Machine/Crc.lean ====
section
/-! DEFINITION. The CRC-32 and CRC-16/XMODEM generators (40_crc.md). -/

namespace Sys2Proof.Machine

open Sys2Proof

/-- The reflected CRC-32 polynomial and the value its register starts from and is complemented with (00_scope.md R6). -/
def crc32Poly : Word := 0xEDB88320
def crc32Ones : Word := 0xFFFFFFFF

/-- The CRC-16 polynomial and initial value (00_scope.md R6). -/
def crc16Poly : Half := 0x1021
def crc16Zero : Half := 0x0000

/-- A function applied `n` times, the `repeat` of the CRC rules. -/
def repeatN {α : Type} (f : α → α) : Nat → α → α
  | 0, x => x
  | n + 1, x => repeatN f n (f x)

/-- One bit of the reflected CRC-32 (R120). -/
def crc32Bit (c : Word) : Word := if c.getLsbD 0 then (c >>> 1) ^^^ crc32Poly else c >>> 1

/-- `Crc32Step(c, b)` (R120). -/
def crc32Step (c : Word) (b : Byte) : Word := repeatN crc32Bit 8 (c ^^^ b.setWidth 32)

/-- `crc32(data)` (R121). -/
def crc32Of (data : List Byte) : Word := data.foldl crc32Step crc32Ones ^^^ crc32Ones

/-- One bit of the unreflected CRC-16 (R122). -/
def crc16Bit (c : Half) : Half := if c.getLsbD 15 then (c <<< 1) ^^^ crc16Poly else c <<< 1

/-- `g(c)` (R122). -/
def crc16Gen (c : Half) : Half := repeatN crc16Bit 8 c

/-- `T16[i] = g(i << 8)` (R122), computed (log 11). -/
def crc16Table (i : Byte) : Half := crc16Gen (i.setWidth 16 <<< 8)

/-- `Crc16Step(c, b)` (R123). -/
def crc16Step (c : Half) (b : Byte) : Half := (c <<< 8) ^^^ crc16Table ((c >>> 8).setWidth 8 ^^^ b)

/-- `crc16_xmodem(data)` (R124). -/
def crc16Of (data : List Byte) : Half := data.foldl crc16Step crc16Zero

/-- CRC32_INIT (R126). -/
def execCrc32Init (s : State) : Host.Outcome State Fault Refusal := .next ((s.setCrc32 crc32Ones).respond [])

/-- CRC32_UPDATE (R127). -/
def execCrc32Update (b : Byte) (s : State) : Host.Outcome State Fault Refusal :=
  .next ((s.setCrc32 (crc32Step s.crc32 b)).respond [])

/-- CRC32_FEED (R128). -/
def execCrc32Feed (d : List Byte) (s : State) : Host.Outcome State Fault Refusal :=
  .next ((s.setCrc32 (d.foldl crc32Step s.crc32)).respond [])

/-- CRC32_READ (R129). -/
def execCrc32Read (s : State) : Host.Outcome State Fault Refusal := .next (s.respond (le32 (s.crc32 ^^^ crc32Ones)))

/-- CRC16_INIT (R130). -/
def execCrc16Init (s : State) : Host.Outcome State Fault Refusal := .next ((s.setCrc16 crc16Zero).respond [])

/-- CRC16_UPDATE (R131). -/
def execCrc16Update (b : Byte) (s : State) : Host.Outcome State Fault Refusal :=
  .next ((s.setCrc16 (crc16Step s.crc16 b)).respond [])

/-- CRC16_FEED (R132). -/
def execCrc16Feed (d : List Byte) (s : State) : Host.Outcome State Fault Refusal :=
  .next ((s.setCrc16 (d.foldl crc16Step s.crc16)).respond [])

/-- CRC16_READ (R133). -/
def execCrc16Read (s : State) : Host.Outcome State Fault Refusal := .next (s.respond (le16 s.crc16))

end Sys2Proof.Machine
end

