-- ==== Sys2Proof/Machine/Wire.lean ====
section
/-! DEFINITION. The five wire commands (30_encoding.md R91), as the block acts on them: a frame that completes on the RX
line while a transaction waits ends it, and its command code and result byte are reported (41_frame_codec.md R176,
42_correlator.md R226; log 4). The request frames of the same commands are built by the ENC_ operations. -/

namespace Sys2Proof.Machine

open Sys2Proof

/-- RESET, 0xCA. -/
def execWireReset (result : Byte) (s : State) : Host.Outcome State Fault Refusal := acceptCommand cmdReset result s

/-- ERASE, 0xCB. -/
def execWireErase (result : Byte) (s : State) : Host.Outcome State Fault Refusal := acceptCommand cmdErase result s

/-- PROGRAM, 0xCC. -/
def execWireProgram (result : Byte) (s : State) : Host.Outcome State Fault Refusal := acceptCommand cmdProgram result s

/-- READ_HEADER, 0xCD. -/
def execWireReadHeader (result : Byte) (s : State) : Host.Outcome State Fault Refusal :=
  acceptCommand cmdReadHeader result s

/-- READ_UUID, 0xCE. -/
def execWireReadUuid (result : Byte) (s : State) : Host.Outcome State Fault Refusal := acceptCommand cmdReadUuid result s

end Sys2Proof.Machine
end

