-- ==== Sys2Proof/Machine/Dispatch.lean ====
section
/-! DEFINITION. One arm per instruction, each a direct call of its meaning. -/

namespace Sys2Proof.Machine

open Sys2Proof

def exec (i : Instr) (s : State) : Host.Outcome State Fault Refusal :=
  match i with
  | .crc32Init => Sys2Proof.Machine.execCrc32Init s
  | .crc32Update b => Sys2Proof.Machine.execCrc32Update b s
  | .crc32Feed d => Sys2Proof.Machine.execCrc32Feed d s
  | .crc32Read => Sys2Proof.Machine.execCrc32Read s
  | .crc16Init => Sys2Proof.Machine.execCrc16Init s
  | .crc16Update b => Sys2Proof.Machine.execCrc16Update b s
  | .crc16Feed d => Sys2Proof.Machine.execCrc16Feed d s
  | .crc16Read => Sys2Proof.Machine.execCrc16Read s
  | .encReset => Sys2Proof.Machine.execEncReset s
  | .encErase a c => Sys2Proof.Machine.execEncErase a c s
  | .encProgram a d => Sys2Proof.Machine.execEncProgram a d s
  | .encReadHeader a => Sys2Proof.Machine.execEncReadHeader a s
  | .encReadUuid => Sys2Proof.Machine.execEncReadUuid s
  | .frameLoad d => Sys2Proof.Machine.execFrameLoad d s
  | .frameRead => Sys2Proof.Machine.execFrameRead s
  | .parse d => Sys2Proof.Machine.execParse d s
  | .xactStart t => Sys2Proof.Machine.execXactStart t s
  | .xactStatus => Sys2Proof.Machine.execXactStatus s
  | .xactReadRx => Sys2Proof.Machine.execXactReadRx s
  | .xactReadFrame => Sys2Proof.Machine.execXactReadFrame s
  | .cfgRead idx => Sys2Proof.Machine.execCfgRead idx s
  | .cfgWrite idx v => Sys2Proof.Machine.execCfgWrite idx v s
  -- a wire command's reserved byte and data are stored with the frame and read by nothing else (R176)
  | .wireReset result _ _ => Sys2Proof.Machine.execWireReset result s
  | .wireErase result _ _ => Sys2Proof.Machine.execWireErase result s
  | .wireProgram result _ _ => Sys2Proof.Machine.execWireProgram result s
  | .wireReadHeader result _ _ => Sys2Proof.Machine.execWireReadHeader result s
  | .wireReadUuid result _ _ => Sys2Proof.Machine.execWireReadUuid result s

end Sys2Proof.Machine
end

