-- ==== Sys2Proof/Machine/Fetch.lean ====
section
/-! DEFINITION. Taking the environment's next input: which instruction it makes the block run, or what the event does by
itself. The block fetches nothing on its own (10_state.md R21); Step.lean only calls this. -/

namespace Sys2Proof.Machine

open Sys2Proof

/-- What the next input comes to: an instruction to run in a state, a next state, or a fault. -/
inductive Fetched where
  | run (i : Instr) (s : State)
  | done (s : State)
  | stop (f : Fault)

/-- The result of an operation that runs no instruction. -/
def fetchedOf (r : Except Fault State) : Fetched :=
  match r with
  | .ok s => .done s
  | .error f => .stop f

/-- A host request: the instruction it encodes, or the one-byte refusal (30_encoding.md R83, R86; 60_exceptions.md
R301). -/
def fetchRequest (q : List Byte) (s : State) : Fetched :=
  match decodeRequest q with
  | .ok i => .run i s
  | .error st => .done (s.fail st)

/-- The last part of RX_BYTE, once the byte is stored and `bs` is `rx_buf[0..rx_len)` (42_correlator.md R226). A complete
frame with one of the five commands runs that command; with any other `cmd_type` it has the same effect (30_encoding.md
R93). -/
def classify (bs : List Byte) (s : State) : Fetched :=
  match parseFrame bs with
  | .complete h len cmd result =>
    match wireInstr bs h len cmd result with
    | some i => .run i s
    | none => .done (s.complete cmd result)
  | .badChecksum _ _ => .done (s.finish .checksumMismatch)
  | .badTerminator _ _ => .done ((s.finish .frameMalformed).mark flagBadTerminator)
  | .tooShort _ _ => .done ((s.finish .frameMalformed).mark flagTooShort)
  | .waitHeader => .done s
  | .waitBody _ _ => .done s

/-- The arriving byte counted and, where there is room, stored; none where the buffer is full (42_correlator.md R226). -/
def State.storeByte (s : State) (b : Byte) : Except Fault State :=
  match bufWrite s.params.rxCap s.rxBuf s.rxLen.toNat b with
  | .error e => .error e
  | .ok m => .ok (s.countByte.setRx m (s.rxLen + 1))

/-- RX_BYTE (42_correlator.md R226). -/
def fetchByte (b : Byte) (s : State) : Fetched :=
  if s.cstate = .waiting then
    if s.rxLen = s.params.rxCap then .done (s.countByte.mark flagOverflow)
    else
      match s.storeByte b with
      | .error e => .stop e
      | .ok t =>
        match t.rxBytes with
        | .error e => .stop e
        | .ok bs => classify bs t
  else .done s

/-- The oldest input, taken from the list; with none the block does nothing (60_exceptions.md R313; log 1). -/
def fetch (s : State) : Fetched :=
  match s.inputs with
  | [] => .done s
  | .request q :: rest => fetchRequest q (s.withInputs rest)
  | .rxByte b :: rest => fetchByte b (s.withInputs rest)
  | .tick :: rest => fetchedOf (s.withInputs rest).tick
  | .reset :: rest => .done (s.withInputs rest).resetInput

/-- The frame bytes waiting on the RX line but for the last, as a transaction holds them (log 3). -/
def State.placeFrame (s : State) (f : List Byte) : State :=
  { s with
    cstate := .waiting, rxLen := lenHalf f.dropLast.length, rxBuf := placeBytes f.dropLast 0,
    inputs := .rxByte (f.getLastD 0) :: s.inputs }
where
  /-- A string as buffer contents from an index on. -/
  placeBytes : List Byte → Nat → Memory
    | [], _ => []
    | b :: t, i => (i, b) :: placeBytes t (i + 1)

/-- A host request waiting to be taken (log 3). -/
def State.placeRequest (s : State) (q : List Byte) : State := { s with inputs := .request q :: s.inputs }

end Sys2Proof.Machine
end

