-- ==== Sys2Proof/Machine/Step.lean ====
section
/-! DEFINITION. One step: the environment's oldest input is taken (Fetch.lean), and the instruction it makes the block
run is executed. -/

namespace Sys2Proof.Machine

open Sys2Proof

/-- What the next input comes to, carried out. -/
def runFetched (f : Fetched) : Host.Outcome State Fault Refusal :=
  match f with
  | .run i t => exec i t
  | .done t => .next t
  | .stop e => .fault e

/-- One indivisible step (20_memory.md R64). -/
def step (s : State) : Host.Outcome State Fault Refusal := runFetched (fetch s)

/-- `s` with the instruction of an opcode-table word placed so that the next step runs it: a host request as the oldest
input; for a wire command, a transaction waiting for the last byte of the command's frame, and that byte as the oldest
input (log 3). -/
def State.withFetchWord (s : State) (nbits w : Nat) : State :=
  let bs := wordBytes ((nbits + 7) / 8) w
  match tableFrame bs with
  | some f => s.placeFrame f
  | none => s.placeRequest (tableRequest bs)

end Sys2Proof.Machine
end

