-- ==== Sys2Proof/Safety.lean ====
section
/-! DEFINITION. What counts as a sound state of the block, and the vocabulary statements use: which parts of the state
two states share, and what the next input is. -/

namespace Sys2Proof.Machine

open Sys2Proof

/-- Every index below `n` holds a byte. -/
abbrev Memory.Covers (m : Memory) (n : Nat) : Prop := ∀ i, i < n → (m.read i).isSome = true

/-- A buffer as 10_state.md R27 and R28 describe it: canonical contents inside the capacity, and a valid length whose
bytes have all been written. -/
structure BufferOk (m : Memory) (len cap : Half) : Prop where
  wf : m.wf = true
  below : m.below cap.toNat = true
  lenLe : len.toNat ≤ cap.toNat
  covers : m.Covers len.toNat

/-- What the received bytes say agrees with where the transaction stands (42_correlator.md R220, R226): while WAITING no
frame is complete yet; after an outcome that a frame gave, that frame is the one found. -/
def ReceivedAgrees (s : State) (bs : List Byte) : Prop :=
  (s.cstate = .waiting → parseFrame bs = .waitHeader ∨ ∃ h len, parseFrame bs = .waitBody h len) ∧
  (s.outcome.hasFrame = true →
    (∃ h len, parseFrame bs = .complete h len s.respCmd s.respResult) ∧ s.outcome = completeOutcome s.respResult) ∧
  (s.outcome = .checksumMismatch → ∃ h len, parseFrame bs = .badChecksum h len) ∧
  (s.outcome = .frameMalformed → ∃ h len, parseFrame bs = .badTerminator h len ∨ parseFrame bs = .tooShort h len)

/-- The invariant of the block: what every rule of the spec leaves true between steps. -/
structure State.Inv (s : State) : Prop where
  /-- the bounds of 00_scope.md R6 -/
  params : s.params.Legal
  /-- "The register never holds another value" (10_state.md R24) -/
  ppt : 1 ≤ s.ppt.toNat ∧ s.ppt.toNat ≤ 3
  /-- "Legal values are 1 to 2^32-1" (10_state.md R25) -/
  cfgTimeout : s.cfgTimeout ≠ 0
  /-- 10_state.md R27 -/
  frame : BufferOk s.frameBuf s.frameLen s.params.txCap
  /-- 10_state.md R28 -/
  rx : BufferOk s.rxBuf s.rxLen s.params.rxCap
  /-- bits 7:4 always read 0 (10_state.md R32) -/
  flags : s.flags &&& 0xF0 = 0
  /-- an outcome stands exactly in DONE (10_state.md R30, R31) -/
  outcome : s.cstate = .done ↔ s.outcome ≠ .none
  /-- no transaction since reset: nothing received, no time passed (10_state.md R30, 70_reset_and_hazards.md R340) -/
  idle : s.cstate = .idle → s.rxLen = 0 ∧ s.rxTotal = 0 ∧ s.elapsed = 0 ∧ s.silence = 0 ∧ s.flags = 0
  /-- a waiting transaction has not reached its timeout (42_correlator.md R227) -/
  waiting : s.cstate = .waiting → s.elapsed.toNat < s.xTimeout.toNat
  /-- every stored byte has been counted (10_state.md R29) -/
  counted : s.rxLen.toNat ≤ s.rxTotal.toNat
  /-- NO_RESPONSE is a timeout with no byte received, TIMEOUT one with some (10_state.md R31) -/
  noResponse : s.outcome = .noResponse → s.rxTotal = 0
  timeout : s.outcome = .timeout → s.rxTotal ≠ 0
  /-- the received bytes agree with the correlator -/
  received : ∃ bs, s.rxBytes = .ok bs ∧ ReceivedAgrees s bs

/-! ### Parts of the state, for frames -/

/-- The CRC registers (10_state.md R22, R23). -/
def SameCrc (s t : State) : Prop := t.crc32 = s.crc32 ∧ t.crc16 = s.crc16

/-- The configuration registers and constants (10_state.md R24 to R26, R39). -/
def SameConfig (s t : State) : Prop :=
  t.ppt = s.ppt ∧ t.cfgTimeout = s.cfgTimeout ∧ t.cfgGrace = s.cfgGrace ∧ t.params = s.params

/-- The frame buffer, every byte of it, and its length (10_state.md R27). -/
def SameFrame (s t : State) : Prop := t.frameLen = s.frameLen ∧ ∀ a, t.frameBuf.read a = s.frameBuf.read a

/-- The receive buffer, every byte of it, and its length (10_state.md R28). -/
def SameRx (s t : State) : Prop := t.rxLen = s.rxLen ∧ ∀ a, t.rxBuf.read a = s.rxBuf.read a

/-- What the last transaction has left: its classification and the response's bytes 13 and 14 (10_state.md R31 to R33). -/
def SameResult (s t : State) : Prop :=
  t.outcome = s.outcome ∧ t.flags = s.flags ∧ t.respCmd = s.respCmd ∧ t.respResult = s.respResult

/-- The correlator state, its counters and its latched values (10_state.md R29, R30, R34 to R36). -/
def SameProgress (s t : State) : Prop :=
  t.cstate = s.cstate ∧ t.rxTotal = s.rxTotal ∧ t.elapsed = s.elapsed ∧ t.silence = s.silence ∧
    t.xTimeout = s.xTimeout ∧ t.xGrace = s.xGrace

/-- The TX line (10_state.md R37). -/
def SameTx (s t : State) : Prop := t.txTrace = s.txTrace

/-- What the environment has still to deliver. -/
def SameInputs (s t : State) : Prop := t.inputs = s.inputs

/-- From `m` to `m'` the string `bs` has been stored at 0 on: its bytes stand there, every other index is as before. -/
def Memory.Replaced (m m' : Memory) (bs : List Byte) : Prop :=
  (∀ k (h : k < bs.length), m'.read k = some bs[k]) ∧ ∀ a, bs.length ≤ a → m'.read a = m.read a

/-! ### The wire format, written a second time from 41_frame_codec.md for the statements about the encoder -/

/-- `d` makes the byte sum of the payload and itself 0 modulo 256 (R161). -/
def DcsFor (payload : List Byte) (d : Byte) : Prop := ((payload.map fun b => b.toNat).sum + d.toNat) % 256 = 0

/-- The payload of an encoded request, `Hdr(cmd) ++ data` (R160, R162). -/
def requestPayload (cmd : Byte) (data : List Byte) : List Byte :=
  [0x05, 0xFF, 0xFF, 0xFF, 0xFF, 0xFF, 0x06, 0xFF, 0xFF, 0xFF, 0xFF, 0xFF, 0x01, cmd, 0x00, 0x00] ++ data

/-- `f` is the frame of R88 and R162 around a payload. -/
def FrameFor (payload f : List Byte) : Prop :=
  ∃ d, DcsFor payload d ∧ f = [0x00, 0x00, 0xFF] ++ le16 (lenHalf payload.length) ++ payload ++ [d, 0x00]

/-- `00 00 FF` stands at `i` (R173). -/
def HeaderAt (s : List Byte) (i : Nat) : Prop := i + 3 ≤ s.length ∧ slice s i 3 = [0x00, 0x00, 0xFF]

/-- `00 00 FF` stands at `h` and nowhere before it (R173). -/
def FirstHeader (s : List Byte) (h : Nat) : Prop := HeaderAt s h ∧ ∀ j, j < h → ¬ HeaderAt s j

/-- The four results that appended bytes cannot change (R178). -/
def isSettled : ParseResult → Bool
  | .waitHeader => false
  | .waitBody _ _ => false
  | .complete _ _ _ _ => true
  | .badTerminator _ _ => true
  | .badChecksum _ _ => true
  | .tooShort _ _ => true

/-- What an operation that writes the frame buffer stores there, where it fits (R165 to R170). -/
def storedFrame (s : State) : Instr → Option (List Byte)
  | .crc32Init => none
  | .crc32Update _ => none
  | .crc32Feed _ => none
  | .crc32Read => none
  | .crc16Init => none
  | .crc16Update _ => none
  | .crc16Feed _ => none
  | .crc16Read => none
  | .encReset => some (build cmdReset [])
  | .encErase a c => some (build cmdErase (le32 a ++ [c]))
  | .encProgram a d => some (build cmdProgram (le32 a ++ [pageCount d.length s.ppt] ++ d))
  | .encReadHeader a => some (build cmdReadHeader (le32 a))
  | .encReadUuid => some (build cmdReadUuid [])
  | .frameLoad d => some d
  | .frameRead => none
  | .parse _ => none
  | .xactStart _ => none
  | .xactStatus => none
  | .xactReadRx => none
  | .xactReadFrame => none
  | .cfgRead _ => none
  | .cfgWrite _ _ => none
  | .wireReset _ _ _ => none
  | .wireErase _ _ _ => none
  | .wireProgram _ _ _ => none
  | .wireReadHeader _ _ _ => none
  | .wireReadUuid _ _ _ => none

/-- The command code an ENC_ operation encodes (30_encoding.md R91). -/
def encodedCommand : Instr → Option Byte
  | .crc32Init => none
  | .crc32Update _ => none
  | .crc32Feed _ => none
  | .crc32Read => none
  | .crc16Init => none
  | .crc16Update _ => none
  | .crc16Feed _ => none
  | .crc16Read => none
  | .encReset => some 0xCA
  | .encErase _ _ => some 0xCB
  | .encProgram _ _ => some 0xCC
  | .encReadHeader _ => some 0xCD
  | .encReadUuid => some 0xCE
  | .frameLoad _ => none
  | .frameRead => none
  | .parse _ => none
  | .xactStart _ => none
  | .xactStatus => none
  | .xactReadRx => none
  | .xactReadFrame => none
  | .cfgRead _ => none
  | .cfgWrite _ _ => none
  | .wireReset _ _ _ => none
  | .wireErase _ _ _ => none
  | .wireProgram _ _ _ => none
  | .wireReadHeader _ _ _ => none
  | .wireReadUuid _ _ _ => none

/-- The operations that write a CRC register (10_state.md R40, "written by"). -/
def writesCrc : Instr → Bool
  | .crc32Init => true
  | .crc32Update _ => true
  | .crc32Feed _ => true
  | .crc32Read => false
  | .crc16Init => true
  | .crc16Update _ => true
  | .crc16Feed _ => true
  | .crc16Read => false
  | .encReset => false
  | .encErase _ _ => false
  | .encProgram _ _ => false
  | .encReadHeader _ => false
  | .encReadUuid => false
  | .frameLoad _ => false
  | .frameRead => false
  | .parse _ => false
  | .xactStart _ => false
  | .xactStatus => false
  | .xactReadRx => false
  | .xactReadFrame => false
  | .cfgRead _ => false
  | .cfgWrite _ _ => false
  | .wireReset _ _ _ => false
  | .wireErase _ _ _ => false
  | .wireProgram _ _ _ => false
  | .wireReadHeader _ _ _ => false
  | .wireReadUuid _ _ _ => false

/-- The operations that only read (20_memory.md R65). -/
def onlyReads : Instr → Bool
  | .crc32Init => false
  | .crc32Update _ => false
  | .crc32Feed _ => false
  | .crc32Read => true
  | .crc16Init => false
  | .crc16Update _ => false
  | .crc16Feed _ => false
  | .crc16Read => true
  | .encReset => false
  | .encErase _ _ => false
  | .encProgram _ _ => false
  | .encReadHeader _ => false
  | .encReadUuid => false
  | .frameLoad _ => false
  | .frameRead => true
  | .parse _ => true
  | .xactStart _ => false
  | .xactStatus => true
  | .xactReadRx => true
  | .xactReadFrame => true
  | .cfgRead _ => true
  | .cfgWrite _ _ => false
  | .wireReset _ _ _ => false
  | .wireErase _ _ _ => false
  | .wireProgram _ _ _ => false
  | .wireReadHeader _ _ _ => false
  | .wireReadUuid _ _ _ => false

/-- Several instructions one after the other, up to the first stop. -/
def execList : List Instr → State → Host.Outcome State Fault Refusal
  | [], s => .next s
  | i :: rest, s =>
    match exec i s with
    | .next t => execList rest t
    | .fault f => .fault f
    | .refused r => .refused r

/-! ### The next input -/

/-- The next input is a host request that encodes `i`. -/
def NextRuns (s : State) (i : Instr) : Prop := ∃ q rest, s.inputs = .request q :: rest ∧ decodeRequest q = .ok i

/-- The next input is the reset input. -/
def NextResets (s : State) : Prop := ∃ rest, s.inputs = .reset :: rest

/-- The next input is an XACT_START. -/
def NextStarts (s : State) : Prop := ∃ t, NextRuns s (.xactStart t)

/-- The ticks in a list of inputs. -/
def tickCount : List Input → Nat
  | [] => 0
  | .tick :: rest => tickCount rest + 1
  | .request _ :: rest => tickCount rest
  | .rxByte _ :: rest => tickCount rest
  | .reset :: rest => tickCount rest

end Sys2Proof.Machine
end

