-- ==== Sys2Proof/Certificates/Slice0/Obligations.lean ====
section
/-! DEFINITION. The statements for the provers, in the order of the spec's files. -/

open Sys2Proof Sys2Proof.Machine

/-! ### Encoding (30_encoding.md) -/

/-- R82, R85, R88, R90, R91: decoding the encoding of a well-formed instruction gives it back, every operand included. -/
def Obligations.DecodeOfEncodeIsTheInstruction : Prop :=
  ∀ i : Instr, i.wellFormed = true → decode i.space (encode i) = .ok i

/-- R82, R83: a request that is accepted is the encoding of the well-formed host operation it is read as. -/
def Obligations.DecodedRequestIsItsEncoding : Prop :=
  ∀ (q : List Byte) (i : Instr), decodeRequest q = .ok i → i.wellFormed = true ∧ i.space = .host ∧ encode i = q

/-- R85, R91, R95: bytes written out in the spec decode to the instructions they stand for. -/
def Obligations.SpecBytesDecode : Prop :=
  decodeRequest [0x03, 0x04, 0x00, 0x31, 0x32, 0x33, 0x34] = .ok (.crc32Feed [0x31, 0x32, 0x33, 0x34]) ∧
  decodeRequest [0x06, 0x31] = .ok (.crc16Update 0x31) ∧
  decodeRequest [0x11, 0x00, 0x00, 0x28, 0x00, 0x10] = .ok (.encErase 0x00280000 16) ∧
  decodeRequest [0x12, 0x00, 0x10, 0x00, 0x00, 0x04, 0x00, 0x11, 0x22, 0x33, 0x44] =
    .ok (.encProgram 0x00001000 [0x11, 0x22, 0x33, 0x44]) ∧
  decodeRequest [0x20, 0x30, 0x75, 0x00, 0x00] = .ok (.xactStart 30000) ∧
  decodeRequest [0x31, 0x00, 0x03, 0x01, 0x00, 0x00] = .ok (.cfgWrite 0 0x00000103) ∧
  decodeFrame [0x00, 0x00, 0xFF, 0x10, 0x00, 0x05, 0xFF, 0xFF, 0xFF, 0xFF, 0xFF, 0x06, 0xFF, 0xFF, 0xFF, 0xFF, 0xFF, 0x01,
    0xCB, 0x01, 0x00, 0x32, 0x00] = .ok (.wireErase 0x01 0x00 [])

/-- R86: an opcode outside the map is ILLEGAL_OP whatever follows it, the state does not change, and no other opcode is. -/
def Obligations.IllegalOpcodesAreRefused : Prop :=
  ∀ (opc : Byte) (args : List Byte),
    let illegal := opc.toNat = 0 ∨ (0x09 ≤ opc.toNat ∧ opc.toNat ≤ 0x0F) ∨ (0x18 ≤ opc.toNat ∧ opc.toNat ≤ 0x1F) ∨
      (0x24 ≤ opc.toNat ∧ opc.toNat ≤ 0x2F) ∨ 0x32 ≤ opc.toNat
    (decodeRequest (opc :: args) = .error .illegalOp ↔ illegal) ∧
    (illegal → ∀ (s : State) (rest : List Input), s.inputs = .request (opc :: args) :: rest →
      step s = .next { s with inputs := rest, responses := s.responses ++ [[0x01]] })

/-- R80, R82, R83, R85: a request of a legal opcode whose length is not its format's, or an empty one, is BAD_LENGTH and
the state does not change; an illegal opcode is ILLEGAL_OP at every length. -/
def Obligations.WrongLengthIsRefused : Prop :=
  (∀ (opc : Byte) (args : List Byte),
    let q := opc :: args
    (opc ∈ [0x01, 0x04, 0x05, 0x08, 0x10, 0x14, 0x16, 0x21, 0x22, 0x23] ∧ q.length ≠ 1 ∨
      opc ∈ [0x02, 0x06, 0x30] ∧ q.length ≠ 2 ∨
      opc ∈ [0x13, 0x20] ∧ q.length ≠ 5 ∨
      opc = 0x11 ∧ q.length ≠ 6 ∨
      opc = 0x12 ∧ q.length ≠ 7 + (rd16 q 5).toNat ∨
      opc ∈ [0x03, 0x07, 0x15, 0x17] ∧ q.length ≠ 3 + (rd16 q 1).toNat ∨
      opc = 0x31 ∧ q.length ≠ 6) →
    decodeRequest q = .error .badLength) ∧
  decodeRequest [] = .error .badLength ∧
  (∀ (s : State) (q : List Byte) (rest : List Input), s.inputs = .request q :: rest →
    decodeRequest q = .error .badLength →
    step s = .next { s with inputs := rest, responses := s.responses ++ [[0x02]] }) ∧
  (∀ (opc : Byte) (args args' : List Byte), decodeRequest (opc :: args) = .error .illegalOp →
    decodeRequest (opc :: args') = .error .illegalOp)

/-! ### What a step is (00_scope.md R7, 20_memory.md R64) -/

/-- A request that decodes to an instruction runs it: the step takes the request from the list and is the instruction's
exec. -/
def Obligations.StepRunsTheDecodedRequest : Prop :=
  ∀ (s : State) (q : List Byte) (rest : List Input) (i : Instr), s.inputs = .request q :: rest →
    decodeRequest q = .ok i → step s = exec i { s with inputs := rest }

/-- The byte that completes a frame in a waiting transaction runs the wire command the received bytes decode to, on the
state with the byte counted and stored (R226; that a wire command runs there is the model's reading, log 4). -/
def Obligations.StepRunsTheCompletedWireCommand : Prop :=
  ∀ (s : State) (b : Byte) (rest : List Input) (bs : List Byte) (i : Instr), s.inputs = .rxByte b :: rest →
    s.cstate = .waiting → s.rxLen.toNat < s.params.rxCap.toNat → s.rxBytes = .ok bs →
    decodeFrame (bs ++ [b]) = .ok i →
    step s = exec i { s with
      inputs := rest, rxTotal := satInc s.rxTotal, silence := 0, rxBuf := s.rxBuf.write s.rxLen.toNat b,
      rxLen := s.rxLen + 1 }

/-- In IDLE and DONE a byte or a tick has no effect (60_exceptions.md R313). That a step with an empty input list leaves the
state as it is is the model's choice, log 1: the spec has no step without an agent's event (00_scope.md R7). -/
def Obligations.QuiescentOutsideWaiting : Prop :=
  (∀ s : State, s.inputs = [] → step s = .next s) ∧
  ∀ (s : State) (rest : List Input), s.cstate = .idle ∨ s.cstate = .done →
    ((∃ b, s.inputs = .rxByte b :: rest) ∨ s.inputs = .tick :: rest) → step s = .next { s with inputs := rest }

/-- R301: a response other than OK is one byte, and then nothing but the response and the taken request has changed. -/
def Obligations.RefusalsArePrecise : Prop :=
  ∀ (s t : State) (q : List Byte) (rest : List Input), s.inputs = .request q :: rest → step s = .next t →
    ∃ r, t.responses = s.responses ++ [r] ∧ r ≠ [] ∧
      (r.head? ≠ some 0x00 → r.length = 1 ∧ t = { s with inputs := rest, responses := s.responses ++ [r] })

/-- R68, R80, R81, R300: in a sound state every request, whatever its bytes, gets exactly one response, whose status is
one of the six. -/
def Obligations.EveryRequestIsAnsweredOnce : Prop :=
  ∀ (s : State) (q : List Byte) (rest : List Input), s.Inv → s.inputs = .request q :: rest →
    ∃ t r, step s = .next t ∧ t.inputs = rest ∧ t.responses = s.responses ++ [r] ∧
      ∃ st, r.head? = some st ∧ st.toNat ≤ 5

/-! ### CRC generators (40_crc.md) -/

/-- R126. -/
def Obligations.Crc32InitLoadsOnes : Prop :=
  decodeRequest [0x01] = .ok .crc32Init ∧
  (∀ args : List Byte, args ≠ [] → decodeRequest (0x01 :: args) = .error .badLength) ∧
  ∀ s : State, ∃ t, exec .crc32Init s = .next t ∧
    t = { s with crc32 := 0xFFFFFFFF, responses := s.responses ++ [[0x00]] } ∧
    exec .crc32Init t = .next { t with responses := t.responses ++ [[0x00]] } ∧
    exec .crc32Read t = .next { t with responses := t.responses ++ [[0x00, 0x00, 0x00, 0x00, 0x00]] }

/-- R127, with the byte step R120 written out for every register and byte: the byte xored into the low bits, then eight
times a shift right, with 0xEDB88320 xored in where bit 0 was 1; and R120's check value. -/
def Obligations.Crc32UpdateStepsOneByte : Prop :=
  (∀ b : Byte, decodeRequest [0x02, b] = .ok (.crc32Update b)) ∧
  (∀ args : List Byte, args.length ≠ 1 → decodeRequest (0x02 :: args) = .error .badLength) ∧
  (∀ (s : State) (b : Byte), exec (.crc32Update b) s =
    .next { s with crc32 := crc32Step s.crc32 b, responses := s.responses ++ [[0x00]] }) ∧
  (∀ (c : Word) (b : Byte),
    let bit (x : Word) : Word := if x.getLsbD 0 then (x >>> 1) ^^^ 0xEDB88320 else x >>> 1
    crc32Step c b = bit (bit (bit (bit (bit (bit (bit (bit (c ^^^ b.setWidth 32))))))))) ∧
  [0x31, 0x32, 0x33, 0x34, 0x35, 0x36, 0x37, 0x38, 0x39].foldl crc32Step 0xFFFFFFFF ^^^ 0xFFFFFFFF = 0xCBF43926 ∧
  crc32Step 0xFFFFFFFF 0xFF = 0x00FFFFFF ∧ (0x00FFFFFF : Word) ^^^ 0xFFFFFFFF = 0xFF000000 ∧
  crc32Step 0xFFFFFFFF 0x31 = 0x7C231048

/-- R128. -/
def Obligations.Crc32FeedFoldsTheBytes : Prop :=
  (∀ d : List Byte, d.length ≤ 65535 →
    decodeRequest (0x03 :: (le16 (lenHalf d.length) ++ d)) = .ok (.crc32Feed d)) ∧
  (∀ args : List Byte, args.length ≠ 2 + (rd16 args 0).toNat → decodeRequest (0x03 :: args) = .error .badLength) ∧
  (∀ (s : State) (d : List Byte), exec (.crc32Feed d) s =
    .next { s with crc32 := d.foldl crc32Step s.crc32, responses := s.responses ++ [[0x00]] }) ∧
  (∀ s : State, exec (.crc32Feed []) s = .next { s with responses := s.responses ++ [[0x00]] }) ∧
  (∀ (s t u v : State) (x y : List Byte), exec (.crc32Feed x) s = .next t → exec (.crc32Feed y) t = .next u →
    exec (.crc32Feed (x ++ y)) s = .next v → u.crc32 = v.crc32) ∧
  [0x31, 0x32, 0x33, 0x34, 0x35, 0x36, 0x37, 0x38, 0x39].foldl crc32Step 0xFFFFFFFF = 0x340BC6D9

/-- R129. -/
def Obligations.Crc32ReadAnswersTheComplement : Prop :=
  decodeRequest [0x04] = .ok .crc32Read ∧
  (∀ args : List Byte, args ≠ [] → decodeRequest (0x04 :: args) = .error .badLength) ∧
  (∀ s : State, exec .crc32Read s =
    .next { s with responses := s.responses ++ [0x00 :: le32 (s.crc32 ^^^ 0xFFFFFFFF)] }) ∧
  le32 ((0xFFFFFFFF : Word) ^^^ 0xFFFFFFFF) = [0x00, 0x00, 0x00, 0x00] ∧
  le32 ((0x340BC6D9 : Word) ^^^ 0xFFFFFFFF) = [0x26, 0x39, 0xF4, 0xCB]

/-- R130. -/
def Obligations.Crc16InitLoadsZero : Prop :=
  decodeRequest [0x05] = .ok .crc16Init ∧
  (∀ args : List Byte, args ≠ [] → decodeRequest (0x05 :: args) = .error .badLength) ∧
  (∀ s : State, exec .crc16Init s = .next { s with crc16 := 0x0000, responses := s.responses ++ [[0x00]] }) ∧
  State.reset.crc16 = 0x0000

/-- The operation of 40_crc.md R131. That leading zero bytes change nothing is the spec's own inference there ("[derived:
from rules R122, R123]"). -/
def Obligations.Crc16UpdateStepsOneByte : Prop :=
  (∀ b : Byte, decodeRequest [0x06, b] = .ok (.crc16Update b)) ∧
  (∀ args : List Byte, args.length ≠ 1 → decodeRequest (0x06 :: args) = .error .badLength) ∧
  (∀ (s : State) (b : Byte), exec (.crc16Update b) s =
    .next { s with crc16 := crc16Step s.crc16 b, responses := s.responses ++ [[0x00]] }) ∧
  crc16Step 0x0000 0x00 = 0x0000 ∧
  (∀ (k : Nat) (d : List Byte), crc16Of (List.replicate k 0x00 ++ d) = crc16Of d) ∧
  crc16Step 0x0000 0x41 = 0x58E5

/-- R132. -/
def Obligations.Crc16FeedFoldsTheBytes : Prop :=
  (∀ d : List Byte, d.length ≤ 65535 →
    decodeRequest (0x07 :: (le16 (lenHalf d.length) ++ d)) = .ok (.crc16Feed d)) ∧
  (∀ args : List Byte, args.length ≠ 2 + (rd16 args 0).toNat → decodeRequest (0x07 :: args) = .error .badLength) ∧
  (∀ (s : State) (d : List Byte), exec (.crc16Feed d) s =
    .next { s with crc16 := d.foldl crc16Step s.crc16, responses := s.responses ++ [[0x00]] }) ∧
  (∀ s : State, exec (.crc16Feed []) s = .next { s with responses := s.responses ++ [[0x00]] }) ∧
  (∀ (s t u v : State) (x y : List Byte), exec (.crc16Feed x) s = .next t → exec (.crc16Feed y) t = .next u →
    exec (.crc16Feed (x ++ y)) s = .next v → u.crc16 = v.crc16) ∧
  [0x31, 0x32, 0x33, 0x34, 0x35, 0x36, 0x37, 0x38, 0x39].foldl crc16Step 0x0000 = 0x31C3

/-- R133. -/
def Obligations.Crc16ReadAnswersTheRegister : Prop :=
  decodeRequest [0x08] = .ok .crc16Read ∧
  (∀ args : List Byte, args ≠ [] → decodeRequest (0x08 :: args) = .error .badLength) ∧
  (∀ s : State, exec .crc16Read s = .next { s with responses := s.responses ++ [0x00 :: le16 s.crc16] }) ∧
  le16 0x31C3 = [0xC3, 0x31]

/-- The table-driven step of 40_crc.md R123, and the spec's own inference there ("It equals eight bit-steps of `g` applied
to `c ^ (b << 8)` [derived: from rule R122]"). -/
def Obligations.Crc16StepIsEightBitSteps : Prop :=
  ∀ (c : Half) (b : Byte),
    crc16Step c b = (c <<< 8) ^^^ crc16Table ((c >>> 8).setWidth 8 ^^^ b) ∧
    crc16Step c b = repeatN (fun x => if x.getLsbD 15 then (x <<< 1) ^^^ 0x1021 else x <<< 1) 8
      (c ^^^ (b.setWidth 16 <<< 8))

/-- R121, R124, R125, R129, R133: a CRC fed in any pieces after its init is the CRC of the whole string, and the
operations write nothing else. -/
def Obligations.RunningCrcIsTheWholeCrc : Prop :=
  (∀ (s : State) (chunks : List (List Byte)),
    execList (.crc32Init :: (chunks.map .crc32Feed ++ [.crc32Read])) s = .next { s with
      crc32 := crc32Of chunks.flatten ^^^ 0xFFFFFFFF
      responses := s.responses ++ List.replicate (chunks.length + 1) [0x00] ++
        [0x00 :: le32 (crc32Of chunks.flatten)] }) ∧
  (∀ (s : State) (chunks : List (List Byte)),
    execList (.crc16Init :: (chunks.map .crc16Feed ++ [.crc16Read])) s = .next { s with
      crc16 := crc16Of chunks.flatten
      responses := s.responses ++ List.replicate (chunks.length + 1) [0x00] ++
        [0x00 :: le16 (crc16Of chunks.flatten)] })

/-- R41, R126 to R133: a CRC operation changes its own register at most, and adds one response. -/
def Obligations.CrcOperationsFrame : Prop :=
  ∀ (s t : State) (i : Instr), writesCrc i = true ∨ i = .crc32Read ∨ i = .crc16Read → exec i s = .next t →
    (SameConfig s t ∧ SameFrame s t ∧ SameRx s t ∧ SameResult s t ∧ SameProgress s t ∧ SameTx s t ∧ SameInputs s t) ∧
    (t.crc32 = s.crc32 ∨ i = .crc32Init ∨ (∃ b, i = .crc32Update b) ∨ ∃ d, i = .crc32Feed d) ∧
    (t.crc16 = s.crc16 ∨ i = .crc16Init ∨ (∃ b, i = .crc16Update b) ∨ ∃ d, i = .crc16Feed d) ∧
    ∃ r, t.responses = s.responses ++ [r]

/-! ### Frame encoder, frame buffer, parser (41_frame_codec.md) -/

/-- R161: the DCS is `(0 - sum) mod 256`, so that payload and DCS sum to 0 modulo 256; a sum of 0 gives 0x00. -/
def Obligations.DcsMakesTheSumZero : Prop :=
  ∀ p : List Byte, DcsFor p (dcs p) ∧
    ((dcs p).toNat : Int) = (0 - ((p.map fun b => b.toNat).sum : Int)) % 256 ∧
    ((p.map fun b => b.toNat).sum % 256 = 0 → dcs p = 0x00)

/-- R165. -/
def Obligations.EncResetBuildsItsFrame : Prop :=
  decodeRequest [0x10] = .ok .encReset ∧
  (∀ args : List Byte, args ≠ [] → decodeRequest (0x10 :: args) = .error .badLength) ∧
  ∀ s : State, s.params.Legal → ∃ m,
    exec .encReset s = .next { s with
      frameBuf := m, frameLen := 23, responses := s.responses ++ [[0x00, 0x17, 0x00]] } ∧
    s.frameBuf.Replaced m [0x00, 0x00, 0xFF, 0x10, 0x00, 0x05, 0xFF, 0xFF, 0xFF, 0xFF, 0xFF, 0x06, 0xFF, 0xFF, 0xFF, 0xFF,
      0xFF, 0x01, 0xCA, 0x00, 0x00, 0x34, 0x00]

/-- R166. -/
def Obligations.EncEraseBuildsItsFrame : Prop :=
  (∀ (a : Word) (c : Byte), decodeRequest (0x11 :: (le32 a ++ [c])) = .ok (.encErase a c)) ∧
  (∀ args : List Byte, args.length ≠ 5 → decodeRequest (0x11 :: args) = .error .badLength) ∧
  (∀ (s : State) (a : Word) (c : Byte), s.params.Legal → ∃ m f,
    FrameFor (requestPayload 0xCB (le32 a ++ [c])) f ∧ f.length = 28 ∧
    exec (.encErase a c) s = .next { s with
      frameBuf := m, frameLen := 28, responses := s.responses ++ [[0x00, 0x1C, 0x00]] } ∧
    s.frameBuf.Replaced m f) ∧
  FrameFor (requestPayload 0xCB (le32 0x00280000 ++ [1])) [0x00, 0x00, 0xFF, 0x15, 0x00, 0x05, 0xFF, 0xFF, 0xFF, 0xFF,
    0xFF, 0x06, 0xFF, 0xFF, 0xFF, 0xFF, 0xFF, 0x01, 0xCB, 0x00, 0x00, 0x00, 0x00, 0x28, 0x00, 0x01, 0x0A, 0x00]

/-- R167: the frame with the clamped page count and all the bytes, or BAD_VALUE when it exceeds TX_CAP; a later CFG_WRITE
does not change it. -/
def Obligations.EncProgramBuildsItsFrameOrRefuses : Prop :=
  (∀ (a : Word) (d : List Byte), d.length ≤ 65535 →
    decodeRequest (0x12 :: (le32 a ++ le16 (lenHalf d.length) ++ d)) = .ok (.encProgram a d)) ∧
  (∀ args : List Byte, args.length ≠ 6 + (rd16 args 4).toNat → decodeRequest (0x12 :: args) = .error .badLength) ∧
  (∀ (s : State) (a : Word) (d : List Byte), s.params.txCap.toNat < 28 + d.length →
    exec (.encProgram a d) s = .next { s with responses := s.responses ++ [[0x03]] }) ∧
  (∀ (s : State) (a : Word) (d : List Byte), 28 + d.length ≤ s.params.txCap.toNat → ∃ m f pc,
    pc.toNat = min ((d.length + 255) / 256) s.ppt.toNat ∧
    FrameFor (requestPayload 0xCC (le32 a ++ [pc] ++ d)) f ∧ f.length = 28 + d.length ∧
    exec (.encProgram a d) s = .next { s with
      frameBuf := m, frameLen := lenHalf (28 + d.length)
      responses := s.responses ++ [0x00 :: le16 (lenHalf (28 + d.length))] } ∧
    s.frameBuf.Replaced m f) ∧
  (∀ (s t u : State) (a : Word) (d : List Byte) (idx : Byte) (v : Word), exec (.encProgram a d) s = .next t →
    exec (.cfgWrite idx v) t = .next u → SameFrame t u) ∧
  FrameFor (requestPayload 0xCC (le32 0x00001000 ++ [1] ++ [0x11, 0x22, 0x33, 0x44])) [0x00, 0x00, 0xFF, 0x19, 0x00, 0x05,
    0xFF, 0xFF, 0xFF, 0xFF, 0xFF, 0x06, 0xFF, 0xFF, 0xFF, 0xFF, 0xFF, 0x01, 0xCC, 0x00, 0x00, 0x00, 0x10, 0x00, 0x00, 0x01,
    0x11, 0x22, 0x33, 0x44, 0x77, 0x00]

/-- R168. -/
def Obligations.EncReadHeaderBuildsItsFrame : Prop :=
  (∀ a : Word, decodeRequest (0x13 :: le32 a) = .ok (.encReadHeader a)) ∧
  (∀ args : List Byte, args.length ≠ 4 → decodeRequest (0x13 :: args) = .error .badLength) ∧
  (∀ (s : State) (a : Word), s.params.Legal → ∃ m f,
    FrameFor (requestPayload 0xCD (le32 a)) f ∧ f.length = 27 ∧
    exec (.encReadHeader a) s = .next { s with
      frameBuf := m, frameLen := 27, responses := s.responses ++ [[0x00, 0x1B, 0x00]] } ∧
    s.frameBuf.Replaced m f) ∧
  FrameFor (requestPayload 0xCD (le32 0x00280000)) [0x00, 0x00, 0xFF, 0x14, 0x00, 0x05, 0xFF, 0xFF, 0xFF, 0xFF, 0xFF, 0x06,
    0xFF, 0xFF, 0xFF, 0xFF, 0xFF, 0x01, 0xCD, 0x00, 0x00, 0x00, 0x00, 0x28, 0x00, 0x09, 0x00]

/-- R169. -/
def Obligations.EncReadUuidBuildsItsFrame : Prop :=
  decodeRequest [0x14] = .ok .encReadUuid ∧
  (∀ args : List Byte, args ≠ [] → decodeRequest (0x14 :: args) = .error .badLength) ∧
  ∀ s : State, s.params.Legal → ∃ m,
    exec .encReadUuid s = .next { s with
      frameBuf := m, frameLen := 23, responses := s.responses ++ [[0x00, 0x17, 0x00]] } ∧
    s.frameBuf.Replaced m [0x00, 0x00, 0xFF, 0x10, 0x00, 0x05, 0xFF, 0xFF, 0xFF, 0xFF, 0xFF, 0x06, 0xFF, 0xFF, 0xFF, 0xFF,
      0xFF, 0x01, 0xCE, 0x00, 0x00, 0x30, 0x00]

/-- R170: the bytes are stored unchecked, or refused BAD_VALUE when they exceed TX_CAP; an empty load empties the buffer,
and XACT_START then answers NO_FRAME. -/
def Obligations.FrameLoadStoresTheBytesOrRefuses : Prop :=
  (∀ d : List Byte, d.length ≤ 65535 →
    decodeRequest (0x15 :: (le16 (lenHalf d.length) ++ d)) = .ok (.frameLoad d)) ∧
  (∀ args : List Byte, args.length ≠ 2 + (rd16 args 0).toNat → decodeRequest (0x15 :: args) = .error .badLength) ∧
  (∀ (s : State) (d : List Byte), s.params.txCap.toNat < d.length →
    exec (.frameLoad d) s = .next { s with responses := s.responses ++ [[0x03]] }) ∧
  (∀ (s : State) (d : List Byte), d.length ≤ s.params.txCap.toNat → ∃ m,
    exec (.frameLoad d) s = .next { s with
      frameBuf := m, frameLen := lenHalf d.length
      responses := s.responses ++ [0x00 :: le16 (lenHalf d.length)] } ∧
    s.frameBuf.Replaced m d) ∧
  (∀ (s t : State) (w : Word), s.cstate ≠ .waiting → exec (.frameLoad []) s = .next t →
    exec (.xactStart w) t = .next { t with responses := t.responses ++ [[0x05]] })

/-- R171, with R62's bounds: FRAME_READ answers the length and the bytes of the frame. -/
def Obligations.FrameReadAnswersTheFrame : Prop :=
  decodeRequest [0x16] = .ok .frameRead ∧
  (∀ args : List Byte, args ≠ [] → decodeRequest (0x16 :: args) = .error .badLength) ∧
  (∀ s : State, s.frameBuf.Covers s.frameLen.toNat → ∃ bs, bs.length = s.frameLen.toNat ∧
    (∀ k (h : k < bs.length), s.frameBuf.read k = some bs[k]) ∧
    exec .frameRead s = .next { s with responses := s.responses ++ [0x00 :: (le16 s.frameLen ++ bs)] }) ∧
  exec .frameRead State.reset = .next { State.reset with responses := [[0x00, 0x00, 0x00]] }

/-- R164 to R171: what a frame buffer operation accepts, FRAME_READ then answers, and XACT_START sends. -/
def Obligations.StoredFrameIsReadBack : Prop :=
  ∀ (s t : State) (i : Instr) (f : List Byte), storedFrame s i = some f → f.length ≤ s.params.txCap.toNat →
    exec i s = .next t →
    exec .frameRead t = .next { t with responses := t.responses ++ [0x00 :: (le16 (lenHalf f.length) ++ f)] } ∧
    (∀ w : Word, s.cstate ≠ .waiting → f ≠ [] →
      ∃ u, exec (.xactStart w) t = .next u ∧ u.txTrace = s.txTrace ++ f)

/-- R163 to R170: an operation that writes the frame buffer changes nothing but the buffer's bytes below the frame's
length, the length, and the responses; refused, not even those. -/
def Obligations.EncoderOperationsFrame : Prop :=
  ∀ (s t : State) (i : Instr) (f : List Byte), storedFrame s i = some f → exec i s = .next t →
    (SameCrc s t ∧ SameConfig s t ∧ SameRx s t ∧ SameResult s t ∧ SameProgress s t ∧ SameTx s t ∧ SameInputs s t) ∧
    (∀ a, f.length ≤ a → t.frameBuf.read a = s.frameBuf.read a) ∧
    (s.params.txCap.toNat < f.length → SameFrame s t)

/-- The spec's own inference in 41_frame_codec.md R178, items 3 and 4 ("[derived: from rules R173 to R176]"): the frame an ENC_ operation leaves parses COMPLETE at 0 with its own command and result 0, and
its payload and DCS sum to 0 modulo 256. -/
def Obligations.EncodedFramesParseBack : Prop :=
  ∀ (s t : State) (i : Instr) (cmd : Byte), encodedCommand i = some cmd → exec i s = .next t →
    t = { s with responses := s.responses ++ [[0x03]] } ∨
    ∃ f, t.frameBytes = .ok f ∧ parseFrame f = .complete 0 (f.length - 7) cmd 0 ∧
      DcsFor (slice f 5 (f.length - 7)) (byteAt f (f.length - 2))

/-- R173 to R176: the parser uses the first header only, waits for five bytes and then for the body, and checks the
terminator, the sum and the length in that order. -/
def Obligations.ParserFollowsItsRules : Prop :=
  (∀ s : List Byte, (∀ i, ¬ HeaderAt s i) → parseFrame s = .waitHeader) ∧
  ∀ (s : List Byte) (h : Nat), FirstHeader s h →
    let len := (rd16 s (h + 3)).toNat
    let p := slice s (h + 5) len
    let sum := (p.map fun b => b.toNat).sum + (byteAt s (h + 5 + len)).toNat
    parseFrame s =
      if s.length < h + 5 then .waitHeader
      else if s.length < h + 7 + len then .waitBody h len
      else if byteAt s (h + 6 + len) ≠ 0x00 then .badTerminator h len
      else if sum % 256 ≠ 0 then .badChecksum h len
      else if len < 16 then .tooShort h len
      else .complete h len (byteAt p 13) (byteAt p 14)

/-- The spec's own inference in 41_frame_codec.md R178, item 1 ("[derived: from rules R173 to R176]"): a settled parse result stays when bytes are appended. -/
def Obligations.SettledParseStaysSettled : Prop :=
  ∀ s x : List Byte, isSettled (parseFrame s) = true → parseFrame (s ++ x) = parseFrame s

/-- R177. -/
def Obligations.ParseAnswersTheParseResult : Prop :=
  (∀ d : List Byte, d.length ≤ 65535 → decodeRequest (0x17 :: (le16 (lenHalf d.length) ++ d)) = .ok (.parse d)) ∧
  (∀ args : List Byte, args.length ≠ 2 + (rd16 args 0).toNat → decodeRequest (0x17 :: args) = .error .badLength) ∧
  (∀ (s : State) (d : List Byte), s.params.rxCap.toNat < d.length →
    exec (.parse d) s = .next { s with responses := s.responses ++ [[0x03]] }) ∧
  (∀ (s : State) (d : List Byte), d.length ≤ s.params.rxCap.toNat →
    exec (.parse d) s = .next { s with responses := s.responses ++
      [match parseFrame d with
        | .waitHeader => [0x00, 0, 0, 0, 0, 0, 0, 0]
        | .waitBody h len => [0x00, 1] ++ le16 (lenHalf h) ++ le16 (lenHalf len) ++ [0, 0]
        | .complete h len cmd result => [0x00, 2] ++ le16 (lenHalf h) ++ le16 (lenHalf len) ++ [cmd, result]
        | .badTerminator h len => [0x00, 3] ++ le16 (lenHalf h) ++ le16 (lenHalf len) ++ [0, 0]
        | .badChecksum h len => [0x00, 4] ++ le16 (lenHalf h) ++ le16 (lenHalf len) ++ [0, 0]
        | .tooShort h len => [0x00, 5] ++ le16 (lenHalf h) ++ le16 (lenHalf len) ++ [0, 0]] }) ∧
  parseFrame [] = .waitHeader ∧
  parseFrame [0x00, 0x00, 0xFF, 0x10, 0x00, 0x05, 0xFF, 0xFF, 0xFF, 0xFF, 0xFF, 0x06, 0xFF, 0xFF, 0xFF, 0xFF, 0xFF, 0x01,
    0xCA, 0x00, 0x00, 0x34, 0x00] = .complete 0 16 0xCA 0

/-! ### Transport correlator (42_correlator.md) -/

/-- R222. -/
def Obligations.XactStartSendsAndArms : Prop :=
  (∀ w : Word, decodeRequest (0x20 :: le32 w) = .ok (.xactStart w)) ∧
  (∀ args : List Byte, args.length ≠ 4 → decodeRequest (0x20 :: args) = .error .badLength) ∧
  (∀ (s : State) (w : Word), s.cstate = .waiting →
    exec (.xactStart w) s = .next { s with responses := s.responses ++ [[0x04]] }) ∧
  (∀ (s : State) (w : Word), s.cstate ≠ .waiting → s.frameLen = 0 →
    exec (.xactStart w) s = .next { s with responses := s.responses ++ [[0x05]] }) ∧
  (∀ (s : State) (w : Word), s.cstate ≠ .waiting → s.frameLen ≠ 0 → s.frameBuf.Covers s.frameLen.toNat →
    ∃ f, f.length = s.frameLen.toNat ∧ (∀ k (h : k < f.length), s.frameBuf.read k = some f[k]) ∧
      exec (.xactStart w) s = .next { s with
        txTrace := s.txTrace ++ f, rxLen := 0, rxTotal := 0, elapsed := 0, silence := 0, flags := 0x00, outcome := .none,
        respCmd := 0, respResult := 0, xTimeout := if w = 0 then s.cfgTimeout else w, xGrace := s.cfgGrace,
        cstate := .waiting, responses := s.responses ++ [[0x00]] })

/-- R223, with the codes of 10_state.md R30 and R31. -/
def Obligations.XactStatusAnswersTheRegisters : Prop :=
  decodeRequest [0x21] = .ok .xactStatus ∧
  (∀ args : List Byte, args ≠ [] → decodeRequest (0x21 :: args) = .error .badLength) ∧
  (∀ s : State, ∃ c o, exec .xactStatus s = .next { s with responses := s.responses ++
      [[0x00, c, o, s.flags, s.respCmd, s.respResult] ++ le16 s.rxLen ++ le32 s.rxTotal ++ le32 s.elapsed] } ∧
    (s.cstate = .idle → c = 0) ∧ (s.cstate = .waiting → c = 1) ∧ (s.cstate = .done → c = 2) ∧
    (s.outcome = .none → o = 0) ∧ (s.outcome = .success → o = 1) ∧ (s.outcome = .commandError → o = 2) ∧
    (s.outcome = .noResponse → o = 3) ∧ (s.outcome = .timeout → o = 4) ∧ (s.outcome = .checksumMismatch → o = 5) ∧
    (s.outcome = .frameMalformed → o = 6)) ∧
  (∀ s : State, s.Inv → s.cstate = .waiting → s.outcome = .none) ∧
  exec .xactStatus State.reset = .next { State.reset with responses := [[0, 0, 0, 0, 0, 0, 0, 0, 0, 0, 0, 0, 0, 0, 0, 0]] }

/-- R224. -/
def Obligations.XactReadRxAnswersTheStoredBytes : Prop :=
  decodeRequest [0x22] = .ok .xactReadRx ∧
  (∀ args : List Byte, args ≠ [] → decodeRequest (0x22 :: args) = .error .badLength) ∧
  ∀ s : State, s.rxBuf.Covers s.rxLen.toNat → ∃ bs, bs.length = s.rxLen.toNat ∧
    (∀ k (h : k < bs.length), s.rxBuf.read k = some bs[k]) ∧
    exec .xactReadRx s = .next { s with responses := s.responses ++ [0x00 :: (le16 s.rxLen ++ bs)] }

/-- R225: NO_FRAME unless the last transaction ended with a complete frame; in a sound state that did, the frame from
its header on, without what came before. -/
def Obligations.XactReadFrameAnswersTheFrame : Prop :=
  decodeRequest [0x23] = .ok .xactReadFrame ∧
  (∀ args : List Byte, args ≠ [] → decodeRequest (0x23 :: args) = .error .badLength) ∧
  (∀ s : State, s.outcome ≠ .success → s.outcome ≠ .commandError →
    exec .xactReadFrame s = .next { s with responses := s.responses ++ [[0x05]] }) ∧
  (∀ s : State, s.Inv → s.outcome = .success ∨ s.outcome = .commandError →
    ∃ bs h len cmd result, s.rxBytes = .ok bs ∧ parseFrame bs = .complete h len cmd result ∧
      exec .xactReadFrame s = .next { s with
        responses := s.responses ++ [0x00 :: (le16 (lenHalf (len + 7)) ++ slice bs h (len + 7))] })

/-- R226: a received byte, in every case. -/
def Obligations.RxByteIsCountedStoredAndClassified : Prop :=
  (∀ x : Word, (satInc x).toNat = min (x.toNat + 1) (2 ^ 32 - 1)) ∧
  ∀ (s : State) (b : Byte) (rest : List Input), s.inputs = .rxByte b :: rest →
    (s.cstate ≠ .waiting → step s = .next { s with inputs := rest }) ∧
    (s.cstate = .waiting → s.rxLen = s.params.rxCap → step s = .next { s with
      inputs := rest, rxTotal := satInc s.rxTotal, silence := 0, flags := s.flags ||| 0x02 }) ∧
    (∀ bs : List Byte, s.cstate = .waiting → s.rxLen.toNat < s.params.rxCap.toNat → s.rxBytes = .ok bs →
      let u : State := { s with
        inputs := rest, rxTotal := satInc s.rxTotal, silence := 0, rxBuf := s.rxBuf.write s.rxLen.toNat b,
        rxLen := s.rxLen + 1 }
      u.rxBytes = .ok (bs ++ [b]) ∧
      step s = .next (match parseFrame (bs ++ [b]) with
        | .complete _ _ cmd result => { u with
            respCmd := cmd, respResult := result, outcome := if result = 0 then .success else .commandError,
            cstate := .done }
        | .badChecksum _ _ => { u with outcome := .checksumMismatch, cstate := .done }
        | .badTerminator _ _ => { u with outcome := .frameMalformed, flags := s.flags ||| 0x04, cstate := .done }
        | .tooShort _ _ => { u with outcome := .frameMalformed, flags := s.flags ||| 0x08, cstate := .done }
        | .waitHeader => u
        | .waitBody _ _ => u))

/-- R227, R228: a tick, in every case; the timeout is tested first, and the desynchronisation rule needs a grace, three
stored bytes that are not the header, and as much silence. -/
def Obligations.TickCountsAndEndsTheTransaction : Prop :=
  (∀ x : Word, (satInc x).toNat = min (x.toNat + 1) (2 ^ 32 - 1)) ∧
  ∀ (s : State) (rest : List Input), s.inputs = .tick :: rest →
    (s.cstate ≠ .waiting → step s = .next { s with inputs := rest }) ∧
    (∀ bs : List Byte, s.cstate = .waiting → s.rxBytes = .ok bs →
      let u : State := { s with inputs := rest, elapsed := satInc s.elapsed, silence := satInc s.silence }
      let desync := s.xGrace ≠ 0 ∧ 3 ≤ s.rxLen.toNat ∧ slice bs 0 3 ≠ [0x00, 0x00, 0xFF] ∧
        s.xGrace.toNat ≤ (satInc s.silence).toNat
      (s.xTimeout.toNat ≤ (satInc s.elapsed).toNat → step s = .next { u with
        outcome := if s.rxTotal = 0 then .noResponse else .timeout, cstate := .done }) ∧
      ((satInc s.elapsed).toNat < s.xTimeout.toNat → desync → step s = .next { u with
        outcome := .timeout, flags := s.flags ||| 0x01, cstate := .done }) ∧
      ((satInc s.elapsed).toNat < s.xTimeout.toNat → ¬ desync → step s = .next u))

/-- R91, R176, R226: each wire command, complete in a waiting transaction, ends it with its own code and its result byte;
outside WAITING it has no effect. That a wire command runs when its frame completes is the model's reading (log 4). -/
def Obligations.WireCommandsEndTheTransaction : Prop :=
  ∀ (s : State) (result reserved : Byte) (data : List Byte),
    let ended (cmd : Byte) : State := { s with
      respCmd := cmd, respResult := result, outcome := if result = 0 then .success else .commandError, cstate := .done }
    (s.cstate = .waiting →
      exec (.wireReset result reserved data) s = .next (ended 0xCA) ∧
      exec (.wireErase result reserved data) s = .next (ended 0xCB) ∧
      exec (.wireProgram result reserved data) s = .next (ended 0xCC) ∧
      exec (.wireReadHeader result reserved data) s = .next (ended 0xCD) ∧
      exec (.wireReadUuid result reserved data) s = .next (ended 0xCE)) ∧
    (s.cstate ≠ .waiting →
      exec (.wireReset result reserved data) s = .next s ∧
      exec (.wireErase result reserved data) s = .next s ∧
      exec (.wireProgram result reserved data) s = .next s ∧
      exec (.wireReadHeader result reserved data) s = .next s ∧
      exec (.wireReadUuid result reserved data) s = .next s)

/-- R226, R227: a byte or a tick changes nothing of the CRC unit, the configuration, the frame buffer, the TX line and the
latched values, and no stored byte but the one at `rx_len`; a tick none. -/
def Obligations.EventsFrame : Prop :=
  ∀ (s t : State) (e : Input) (rest : List Input), s.inputs = e :: rest → e = .tick ∨ (∃ b, e = .rxByte b) →
    step s = .next t →
    SameCrc s t ∧ SameConfig s t ∧ SameFrame s t ∧ SameTx s t ∧ t.inputs = rest ∧ t.responses = s.responses ∧
    t.xTimeout = s.xTimeout ∧ t.xGrace = s.xGrace ∧
    (∀ a, a ≠ s.rxLen.toNat → t.rxBuf.read a = s.rxBuf.read a) ∧ (e = .tick → SameRx s t)

/-- R222, R225: XACT_START changes nothing of the CRC unit, the configuration, the frame buffer and every stored byte. -/
def Obligations.XactStartFrame : Prop :=
  ∀ (s t : State) (w : Word), exec (.xactStart w) s = .next t →
    SameCrc s t ∧ SameConfig s t ∧ SameFrame s t ∧ SameInputs s t ∧ (∀ a, t.rxBuf.read a = s.rxBuf.read a) ∧
    (s.cstate = .waiting ∨ s.frameLen = 0 → SameRx s t ∧ SameResult s t ∧ SameProgress s t ∧ SameTx s t)

/-- R220: the correlator state moves only along the transitions of its table, and `done` with it. -/
def Obligations.CorrelatorMovesOnlyAlongItsTransitions : Prop :=
  ∀ s t : State, step s = .next t →
    (t.doneOut = true ↔ t.cstate = .done) ∧
    (t.cstate = s.cstate ∨
      (s.cstate ≠ .waiting ∧ NextStarts s ∧ s.frameLen ≠ 0 ∧ t.cstate = .waiting) ∨
      (s.cstate = .waiting ∧ (∃ b rest, s.inputs = .rxByte b :: rest) ∧ t.cstate = .done) ∨
      (s.cstate = .waiting ∧ (∃ rest, s.inputs = .tick :: rest) ∧ t.cstate = .done) ∨
      (NextResets s ∧ t.cstate = .idle))

/-- The spec's own inference in 42_correlator.md R221 ("[derived: from rules R227 and R222"): whatever bytes arrive and whatever the host asks, a waiting transaction is DONE after as many ticks as are left
of its timeout, if no reset comes first. -/
def Obligations.TransactionTerminates : Prop :=
  ∀ (s : State) (es rest : List Input), s.Inv → s.cstate = .waiting → s.inputs = es ++ rest → .reset ∉ es →
    s.xTimeout.toNat - s.elapsed.toNat ≤ tickCount es →
    ∃ k t, k ≤ es.length ∧ Host.Core.run Sys2Proof.core k s = .next t ∧ t.cstate = .done

/-- R37: only XACT_START appends to the TX trace, and what it appends is the frame; nothing takes a byte back. -/
def Obligations.TxTraceGrowsOnlyByXactStart : Prop :=
  ∀ s t : State, step s = .next t →
    t.txTrace = s.txTrace ∨
    (NextStarts s ∧ s.cstate ≠ .waiting ∧ ∃ f, s.frameBytes = .ok f ∧ t.txTrace = s.txTrace ++ f)

/-- R36, R347: while a transaction waits, no step but reset changes its latched timeout and grace. -/
def Obligations.LatchedValuesStayWhileWaiting : Prop :=
  ∀ s t : State, s.cstate = .waiting → step s = .next t →
    NextResets s ∨ (t.xTimeout = s.xTimeout ∧ t.xGrace = s.xGrace)

/-- R304, R226, R227: in DONE the outcome, the flags, the response's bytes, the received bytes and the counters stay until
an XACT_START or a reset. -/
def Obligations.OutcomeIsHeldInDone : Prop :=
  ∀ s t : State, s.cstate = .done → step s = .next t →
    NextStarts s ∨ NextResets s ∨ (SameResult s t ∧ SameProgress s t ∧ SameRx s t)

/-! ### Configuration (43_config.md) -/

/-- R286, with R280's map. -/
def Obligations.CfgReadAnswersTheRegister : Prop :=
  (∀ idx : Byte, decodeRequest [0x30, idx] = .ok (.cfgRead idx)) ∧
  (∀ args : List Byte, args.length ≠ 1 → decodeRequest (0x30 :: args) = .error .badLength) ∧
  (∀ s : State,
    exec (.cfgRead 0) s = .next { s with responses := s.responses ++ [0x00 :: le32 (s.ppt.setWidth 32)] } ∧
    exec (.cfgRead 1) s = .next { s with responses := s.responses ++ [0x00 :: le32 s.cfgTimeout] } ∧
    exec (.cfgRead 2) s = .next { s with responses := s.responses ++ [0x00 :: le32 s.cfgGrace] } ∧
    exec (.cfgRead 3) s = .next { s with responses := s.responses ++ [0x00 :: le32 (s.params.rxCap.setWidth 32)] } ∧
    exec (.cfgRead 4) s = .next { s with responses := s.responses ++ [0x00 :: le32 (s.params.txCap.setWidth 32)] } ∧
    ∀ idx : Byte, 5 ≤ idx.toNat → exec (.cfgRead idx) s = .next { s with responses := s.responses ++ [[0x03]] }) ∧
  exec (.cfgRead 1) State.reset = .next { State.reset with responses := [[0x00, 0x88, 0x13, 0x00, 0x00]] }

/-- R285, R287: a legal write sets its register to the value, any other is BAD_VALUE and changes nothing. -/
def Obligations.CfgWriteSetsLegalValuesOnly : Prop :=
  (∀ (idx : Byte) (v : Word), decodeRequest (0x31 :: idx :: le32 v) = .ok (.cfgWrite idx v)) ∧
  (∀ args : List Byte, args.length ≠ 5 → decodeRequest (0x31 :: args) = .error .badLength) ∧
  (∀ (s : State) (v : Word),
    (1 ≤ v.toNat ∧ v.toNat ≤ 3 → exec (.cfgWrite 0 v) s = .next { s with
      ppt := BitVec.ofNat 8 v.toNat, responses := s.responses ++ [[0x00]] }) ∧
    (v ≠ 0 → exec (.cfgWrite 1 v) s = .next { s with cfgTimeout := v, responses := s.responses ++ [[0x00]] }) ∧
    exec (.cfgWrite 2 v) s = .next { s with cfgGrace := v, responses := s.responses ++ [[0x00]] }) ∧
  (∀ (s : State) (idx : Byte) (v : Word),
    (5 ≤ idx.toNat ∨ idx = 3 ∨ idx = 4 ∨ (idx = 0 ∧ ¬ (1 ≤ v.toNat ∧ v.toNat ≤ 3)) ∨ (idx = 1 ∧ v = 0)) →
    exec (.cfgWrite idx v) s = .next { s with responses := s.responses ++ [[0x03]] })

/-- R24 to R26, R280: a configuration operation changes its own register at most, and adds one
response. -/
def Obligations.ConfigOperationsFrame : Prop :=
  ∀ (s t : State) (i : Instr), (∃ idx, i = .cfgRead idx) ∨ (∃ idx v, i = .cfgWrite idx v) → exec i s = .next t →
    (SameCrc s t ∧ SameFrame s t ∧ SameRx s t ∧ SameResult s t ∧ SameProgress s t ∧ SameTx s t ∧ SameInputs s t ∧
      t.params = s.params) ∧
    (t.ppt = s.ppt ∨ ∃ v, i = .cfgWrite 0 v) ∧ (t.cfgTimeout = s.cfgTimeout ∨ ∃ v, i = .cfgWrite 1 v) ∧
    (t.cfgGrace = s.cfgGrace ∨ ∃ v, i = .cfgWrite 2 v) ∧ ∃ r, t.responses = s.responses ++ [r]

/-! ### Reset and the whole machine -/

/-- R340: the reset input, in an instance whose PPT_RESET, TIMEOUT_RESET and GRACE_RESET are the defaults 1, 5000 and
1000; the buffers' contents are left open, and after power-on the block is in the state reset leaves. -/
def Obligations.ResetInputLoadsTheResetValues : Prop :=
  (∀ (s : State) (rest : List Input), s.inputs = .reset :: rest → s.params.pptReset = 1 →
    s.params.timeoutReset = 5000 → s.params.graceReset = 1000 → ∃ frame rx,
    step s = .next { s with
      crc32 := 0xFFFFFFFF, crc16 := 0x0000, ppt := 1, cfgTimeout := 5000, cfgGrace := 1000, frameBuf := frame,
      frameLen := 0, rxBuf := rx, rxLen := 0, rxTotal := 0, cstate := .idle, outcome := .none, flags := 0x00,
      respCmd := 0, respResult := 0, elapsed := 0, silence := 0, xTimeout := 0, xGrace := 0, inputs := rest }) ∧
  ∀ rest : List Input, ∃ frame rx, step { State.reset with inputs := .reset :: rest } =
    .next { State.reset with frameBuf := frame, rxBuf := rx, inputs := rest }

/-- 10_state.md R40: the values the state has after power-on. And what the reset input leaves in an instance with any
parameters (00_scope.md R6, 93_implementation_defined.md I10): PPT_RESET, TIMEOUT_RESET and GRACE_RESET in the three
configuration registers, every other field as 70_reset_and_hazards.md R340 gives it. That the parameters replace R340's 1,
5000 and 1000 is the model's choice, log 9. -/
def Obligations.PowerOnAndInstanceResetValues : Prop :=
  State.reset.crc32 = 0xFFFFFFFF ∧ State.reset.crc16 = 0x0000 ∧ State.reset.ppt = 1 ∧ State.reset.cfgTimeout = 5000 ∧
  State.reset.cfgGrace = 1000 ∧ State.reset.frameLen = 0 ∧ State.reset.rxLen = 0 ∧ State.reset.rxTotal = 0 ∧
  State.reset.cstate = .idle ∧ State.reset.outcome = .none ∧ State.reset.flags = 0x00 ∧ State.reset.respCmd = 0 ∧
  State.reset.respResult = 0 ∧ State.reset.elapsed = 0 ∧ State.reset.silence = 0 ∧ State.reset.xTimeout = 0 ∧
  State.reset.xGrace = 0 ∧ State.reset.txTrace = [] ∧ State.reset.doneOut = false ∧
  ∀ (s : State) (rest : List Input), s.inputs = .reset :: rest → ∃ frame rx,
    step s = .next { s with
      crc32 := 0xFFFFFFFF, crc16 := 0x0000, ppt := s.params.pptReset, cfgTimeout := s.params.timeoutReset,
      cfgGrace := s.params.graceReset, frameBuf := frame, frameLen := 0, rxBuf := rx, rxLen := 0, rxTotal := 0,
      cstate := .idle, outcome := .none, flags := 0x00, respCmd := 0, respResult := 0, elapsed := 0, silence := 0,
      xTimeout := 0, xGrace := 0, inputs := rest }

/-- The invariant holds after power-on. -/
def Obligations.ResetStateIsSound : Prop := State.reset.Inv

/-- Every step from a sound state leads to a sound state. -/
def Obligations.StepKeepsSoundness : Prop := ∀ s t : State, s.Inv → step s = .next t → t.Inv

/-- R62, R225, 93_implementation_defined.md part A ("Every host request and every event has one defined result"): in a
sound state no step stops. -/
def Obligations.SoundStateAlwaysSteps : Prop := ∀ s : State, s.Inv → ∃ t, step s = .next t

/-- R65: the eight read operations change nothing but the responses, and a second read answers the same. -/
def Obligations.ReadsChangeNothing : Prop :=
  ∀ (s t : State) (i : Instr), onlyReads i = true → exec i s = .next t →
    ∃ r, t = { s with responses := s.responses ++ [r] } ∧
      exec i t = .next { t with responses := t.responses ++ [r] }

/-- R40, column "written by": over all steps, a CRC register changes only by its operations, a configuration register only
by CFG_WRITE, the frame buffer only by ENC_ operations and FRAME_LOAD, each also by reset; the constants never. -/
def Obligations.FieldsAreWrittenOnlyByTheirOperations : Prop :=
  ∀ s t : State, step s = .next t →
    t.params = s.params ∧
    (SameCrc s t ∨ NextResets s ∨ ∃ i, NextRuns s i ∧ writesCrc i = true) ∧
    (SameConfig s t ∨ NextResets s ∨ ∃ idx v, NextRuns s (.cfgWrite idx v)) ∧
    (SameFrame s t ∨ NextResets s ∨ ∃ i f, NextRuns s i ∧ storedFrame s i = some f)

/-- Every instruction is modelled: exec never ends in the outcome `refused` of Host.Outcome (an instruction without a
meaning). The status refusals of 60_exceptions.md R300 are next states, and do occur. -/
def Obligations.EveryInstructionIsModelled : Prop :=
  ∀ (i : Instr) (s : State) (r : Refusal), exec i s ≠ .refused r
end

