-- ==== Sys2Proof/Laws/Bytes.lean ====
section
/-! SUPPORT. The laws of byte strings: little-endian numbers, byte sums, lengths of frames. -/

namespace Sys2Proof

@[simp] theorem le16_length (v : Half) : (le16 v).length = 2 := rfl

@[simp] theorem le32_length (v : Word) : (le32 v).length = 4 := rfl

@[simp] theorem byteAt_cons_zero (b : Byte) (t : List Byte) : byteAt (b :: t) 0 = b := rfl

@[simp] theorem byteAt_cons_succ (b : Byte) (t : List Byte) (i : Nat) : byteAt (b :: t) (i + 1) = byteAt t i := by
  simp [byteAt]

theorem byteAt_append_right (s t : List Byte) (i : Nat) : byteAt (s ++ t) (s.length + i) = byteAt t i := by
  simp [byteAt, List.getD_eq_getElem?_getD, List.getElem?_append_right]

theorem byteAt_append_left {s : List Byte} (t : List Byte) {i : Nat} (h : i < s.length) :
    byteAt (s ++ t) i = byteAt s i := by
  simp [byteAt, List.getD_eq_getElem?_getD, List.getElem?_append_left h]

/-- `rd16(le16(v))` is `v`, wherever in a string. -/
theorem rd16_le16 (v : Half) (t : List Byte) : rd16 (le16 v ++ t) 0 = v := by
  apply BitVec.eq_of_getLsbD_eq
  intro i hi
  simp [rd16, le16]
  by_cases h : i < 8
  · simp [h]; omega
  · simp [h, show i - 8 < 8 by omega, hi, show 8 + (i - 8) = i by omega]; omega

/-- `rd32(le32(v))` is `v`. -/
theorem rd32_le32 (v : Word) (t : List Byte) : rd32 (le32 v ++ t) 0 = v := by
  apply BitVec.eq_of_getLsbD_eq
  intro i hi
  simp [rd32, le32]
  rcases (by omega : i < 8 ∨ 8 ≤ i ∧ i < 16 ∨ 16 ≤ i ∧ i < 24 ∨ 24 ≤ i ∧ i < 32) with h | h | h | h
  · simp [h, show i < 16 by omega, show i < 24 by omega]; omega
  · simp [show ¬ i < 8 by omega, show i < 16 by omega, show i < 24 by omega, show i - 8 < 8 by omega, hi,
      show 8 + (i - 8) = i by omega]; omega
  · simp [show ¬ i < 8 by omega, show ¬ i < 16 by omega, show i < 24 by omega, show ¬ i - 8 < 8 by omega,
      show i - 16 < 8 by omega, hi, show 16 + (i - 16) = i by omega]; omega
  · simp [show ¬ i < 8 by omega, show ¬ i < 16 by omega, show ¬ i < 24 by omega, show ¬ i - 8 < 8 by omega,
      show ¬ i - 16 < 8 by omega, show i - 24 < 8 by omega, hi, show 24 + (i - 24) = i by omega]; omega

/-- Reading past one byte of a string. -/
@[simp] theorem rd16_cons_succ (b : Byte) (t : List Byte) (i : Nat) : rd16 (b :: t) (i + 1) = rd16 t i := by
  simp [rd16]

@[simp] theorem rd32_cons_succ (b : Byte) (t : List Byte) (i : Nat) : rd32 (b :: t) (i + 1) = rd32 t i := by
  simp only [rd32, Nat.add_right_comm i 1, byteAt_cons_succ]

theorem rd16_append_right (s t : List Byte) (i : Nat) : rd16 (s ++ t) (s.length + i) = rd16 t i := by
  simp only [rd16, Nat.add_assoc, byteAt_append_right]

/-- A length that fits a u16 is sent unchanged. -/
theorem lenHalf_toNat {n : Nat} (h : n ≤ 65535) : (lenHalf n).toNat = n := by
  simp [lenHalf]; omega

@[simp] theorem byteSum_nil : byteSum [] = 0 := rfl

@[simp] theorem byteSum_cons (b : Byte) (t : List Byte) : byteSum (b :: t) = b + byteSum t := rfl

@[simp] theorem byteSum_append (s t : List Byte) : byteSum (s ++ t) = byteSum s + byteSum t := by
  induction s with
  | nil => simp
  | cons b s ih => simp [ih, BitVec.add_assoc]

@[simp] theorem frameOf_length (p : List Byte) : (frameOf p).length = p.length + 7 := by
  simp [frameOf, frameHeader]; omega

@[simp] theorem wirePayload_length (cmd result reserved : Byte) (data : List Byte) :
    (wirePayload cmd result reserved data).length = 16 + data.length := by
  simp [wirePayload, payloadPrefix]; omega

/-- `len(Build(cmd, data)) = 23 + len(data)` (41_frame_codec.md R162), with any result and reserved byte. -/
@[simp] theorem wireFrame_length (cmd result reserved : Byte) (data : List Byte) :
    (wireFrame cmd result reserved data).length = 23 + data.length := by
  simp [wireFrame]; omega

@[simp] theorem build_length (cmd : Byte) (data : List Byte) : (build cmd data).length = 23 + data.length := by
  simp [build]

@[simp] theorem counted_length (d : List Byte) : (counted d).length = 2 + d.length := by
  simp [counted]

end Sys2Proof
end

