-- ==== Sys2Proof/Laws/Decode.lean ====
section
/-! SUPPORT. What the host request decoder can answer, said once, and the operand forms on the bytes the encoder
writes. -/

namespace Sys2Proof

/-- A request of a legal opcode with its format's length is accepted. -/
theorem decodeRequest_accepts {opc : Byte} {args : List Byte} {f : Format} {mk : List Byte → Instr}
    (h : hostRow opc = some (f, mk)) (hl : (opc :: args).length = f.requestLength (opc :: args)) :
    decodeRequest (opc :: args) = .ok (mk (opc :: args)) := by
  simp only [decodeRequest, h]
  split
  · rfl
  · next hn => exact absurd hl hn

/-- A request of a legal opcode with another length is refused. -/
theorem decodeRequest_wrongLength {opc : Byte} {args : List Byte} {f : Format} {mk : List Byte → Instr}
    (h : hostRow opc = some (f, mk)) (hl : (opc :: args).length ≠ f.requestLength (opc :: args)) :
    decodeRequest (opc :: args) = .error .badLength := by
  simp only [decodeRequest, h]
  split
  · next hn => exact absurd hn hl
  · rfl

/-- A request of an illegal opcode is refused at every length. -/
theorem decodeRequest_illegal {opc : Byte} (h : hostRow opc = none) (args : List Byte) :
    decodeRequest (opc :: args) = .error .illegalOp := by
  simp only [decodeRequest, h]

/-- Everything an accepted request can be. -/
theorem decodeRequest_ok {q : List Byte} {i : Instr} (h : decodeRequest q = .ok i) :
    ∃ opc args f mk, q = opc :: args ∧ hostRow opc = some (f, mk) ∧ q.length = f.requestLength q ∧ i = mk q := by
  unfold decodeRequest at h
  split at h
  · cases h
  · next opc args =>
    split at h
    · cases h
    · next f mk hr =>
      split at h
      · next hl => cases h; exact ⟨opc, args, f, mk, rfl, hr, hl, rfl⟩
      · cases h

/-- A request is only ever read as a host operation. -/
theorem decodeRequest_space {q : List Byte} {i : Instr} (h : decodeRequest q = .ok i) : i.space = .host := by
  obtain ⟨opc, args, f, mk, rfl, hr, -, rfl⟩ := decodeRequest_ok h
  unfold hostRow at hr
  split at hr <;> simp at hr <;> obtain ⟨rfl, rfl⟩ := hr <;> rfl

/-- The count of host_FN, on the bytes the encoder writes. -/
theorem rd16_counted (opc : Byte) (d : List Byte) : rd16 (opc :: counted d) 1 = lenHalf d.length := by
  rw [rd16_cons_succ]; exact rd16_le16 _ _

/-- The data of host_FN, on the bytes the encoder writes. -/
theorem dataFN_counted (opc : Byte) (d : List Byte) (h : d.length ≤ 65535) : dataFN (opc :: counted d) = d := by
  rw [dataFN, rd16_counted, lenHalf_toNat h]
  simp [slice, counted, le16]

/-- A counted request of a host_FN opcode is accepted with its data. -/
theorem decodeRequest_counted {opc : Byte} {mk : List Byte → Instr}
    (h : hostRow opc = some (.fn, fun q => mk (dataFN q))) {d : List Byte} (hd : d.length ≤ 65535) :
    decodeRequest (opc :: counted d) = .ok (mk d) := by
  have hl : (opc :: counted d).length = Format.requestLength .fn (opc :: counted d) := by
    simp only [Format.requestLength, rd16_counted, lenHalf_toNat hd, List.length_cons, counted_length]
    omega
  rw [decodeRequest_accepts h hl, dataFN_counted opc d hd]

/-- The fields of host_F4N, on the bytes the encoder writes. -/
theorem rd32_f4n (opc : Byte) (a : Word) (d : List Byte) : rd32 (opc :: (le32 a ++ d)) 1 = a := by
  rw [rd32_cons_succ]; exact rd32_le32 a d

theorem rd16_f4n (opc : Byte) (a : Word) (d : List Byte) : rd16 (opc :: (le32 a ++ counted d)) 5 = lenHalf d.length := by
  rw [rd16_cons_succ]
  have := rd16_append_right (le32 a) (counted d) 0
  rw [le32_length, Nat.add_zero] at this
  rw [this]
  exact rd16_le16 _ _

theorem dataF4N_counted (opc : Byte) (a : Word) (d : List Byte) (h : d.length ≤ 65535) :
    dataF4N (opc :: (le32 a ++ counted d)) = d := by
  rw [dataF4N, rd16_f4n, lenHalf_toNat h]
  simp [slice, counted, le16, le32]

end Sys2Proof
end

