-- ==== Sys2Proof/Laws/Memory.lean ====
section
/-! SUPPORT. The laws of buffer contents: a read after a write, the canonical form, and what the loops over a buffer
do. -/

namespace Sys2Proof.Machine

open Sys2Proof

@[simp] theorem Memory.read_nil (a : Nat) : Memory.read [] a = none := rfl

@[simp] theorem Memory.read_cons (k : Nat) (v : Byte) (t : Memory) (a : Nat) :
    Memory.read ((k, v) :: t) a = if a = k then some v else Memory.read t a := rfl

theorem Memory.read_write_same (m : Memory) (a : Nat) (b : Byte) : (m.write a b).read a = some b := by
  induction m with
  | nil => simp [Memory.write]
  | cons c t ih =>
    obtain ⟨k, v⟩ := c
    unfold Memory.write
    split
    · simp
    · split <;> simp_all

theorem Memory.read_write_other (m : Memory) {a x : Nat} (b : Byte) (h : x ≠ a) :
    (m.write a b).read x = m.read x := by
  induction m with
  | nil => simp [Memory.write, h]
  | cons c t ih =>
    obtain ⟨k, v⟩ := c
    unfold Memory.write
    split
    · subst_vars; simp [h]
    · split <;> simp_all

/-- A read after a write, in one equation. -/
theorem Memory.read_write (m : Memory) (a x : Nat) (b : Byte) :
    (m.write a b).read x = if x = a then some b else m.read x := by
  split
  · next h => rw [h, Memory.read_write_same]
  · next h => exact Memory.read_write_other m b h

theorem Memory.wf_cons {k : Nat} {v : Byte} {t : Memory} :
    Memory.wf ((k, v) :: t) = true ↔ (∀ c ∈ t.head?, k < c.1) ∧ Memory.wf t = true := by
  cases t with
  | nil => simp [Memory.wf]
  | cons c t => simp [Memory.wf]

theorem Memory.head_write (m : Memory) (a : Nat) (b : Byte) :
    ∀ c ∈ (m.write a b).head?, c.1 = a ∨ ∃ d ∈ m.head?, c.1 = d.1 := by
  cases m with
  | nil => simp [Memory.write]
  | cons c t =>
    obtain ⟨k, v⟩ := c
    unfold Memory.write
    split
    · simp
    · split <;> simp

/-- Writing keeps the canonical form. -/
theorem Memory.wf_write (m : Memory) (a : Nat) (b : Byte) (h : m.wf = true) : (m.write a b).wf = true := by
  induction m with
  | nil => simp [Memory.write, Memory.wf]
  | cons c t ih =>
    obtain ⟨k, v⟩ := c
    obtain ⟨hk, ht⟩ := Memory.wf_cons.mp h
    unfold Memory.write
    split
    · next heq => subst heq; exact Memory.wf_cons.mpr ⟨hk, ht⟩
    · split
      · next hlt => exact Memory.wf_cons.mpr ⟨by simpa using hlt, h⟩
      · next hne hnlt =>
        refine Memory.wf_cons.mpr ⟨fun c hc => ?_, ih ht⟩
        rcases Memory.head_write t a b c hc with h1 | ⟨d, hd, h1⟩
        · omega
        · rw [h1]; exact hk d hd

/-- The buffers hold canonical contents after reset. -/
theorem State.reset_wf : State.reset.frameBuf.wf = true ∧ State.reset.rxBuf.wf = true := ⟨rfl, rfl⟩

theorem Memory.below_iff {m : Memory} {cap : Nat} : m.below cap = true ↔ ∀ c ∈ m, c.1 < cap := by
  simp [Memory.below]

theorem Memory.mem_write {m : Memory} {a : Nat} {b : Byte} {c : Host.Cell} (h : c ∈ m.write a b) :
    c = (a, b) ∨ c ∈ m := by
  induction m with
  | nil => simpa [Memory.write] using h
  | cons d t ih =>
    obtain ⟨k, v⟩ := d
    unfold Memory.write at h
    split at h
    · simp at h; tauto
    · split at h
      · simp at h; simp; tauto
      · simp at h ⊢
        rcases h with h | h
        · exact .inr (.inl h)
        · rcases ih h with h | h <;> tauto

/-- Writing below the capacity stays below it. -/
theorem Memory.below_write {m : Memory} {a cap : Nat} (b : Byte) (h : m.below cap = true) (ha : a < cap) :
    (m.write a b).below cap = true := by
  rw [Memory.below_iff] at *
  intro c hc
  rcases Memory.mem_write hc with rfl | hc
  · exact ha
  · exact h c hc

theorem Memory.covers_write {m : Memory} {n : Nat} (b : Byte) (h : m.Covers n) : (m.write n b).Covers (n + 1) := by
  intro i hi
  rw [Memory.read_write]
  split
  · rfl
  · exact h i (by omega)

/-! ### BufRead and BufWrite -/

theorem bufRead_of_read {len : Half} {m : Memory} {i : Nat} {b : Byte} (hi : i < len.toNat) (h : m.read i = some b) :
    bufRead len m i = .ok b := by
  simp [bufRead, hi, h]

theorem bufWrite_of_lt {cap : Half} {m : Memory} {i : Nat} (b : Byte) (h : i < cap.toNat) :
    bufWrite cap m i b = .ok (m.write i b) := by
  simp [bufWrite, h]

/-- What BufRead can answer: a byte only below the valid length, and then the byte there. -/
theorem bufRead_ok {len : Half} {m : Memory} {i : Nat} {b : Byte} :
    bufRead len m i = .ok b ↔ i < len.toNat ∧ m.read i = some b := by
  unfold bufRead
  split
  · split <;> simp_all
  · simp_all

/-- What BufWrite can answer: new contents only below the capacity. -/
theorem bufWrite_ok {cap : Half} {m m' : Memory} {i : Nat} {b : Byte} :
    bufWrite cap m i b = .ok m' ↔ i < cap.toNat ∧ m' = m.write i b := by
  unfold bufWrite
  split <;> simp_all [eq_comm]

/-- The whole of what reading a range can answer: `n` bytes, each the one at its index. -/
theorem bufReadN_ok {len : Half} {m : Memory} {i n : Nat} {bs : List Byte} :
    bufReadN len m i n = .ok bs ↔
      bs.length = n ∧ ∀ k (h : k < bs.length), i + k < len.toNat ∧ m.read (i + k) = some bs[k] := by
  induction n generalizing i bs with
  | zero =>
    simp only [bufReadN, Except.ok.injEq]
    constructor
    · rintro rfl; simp
    · rintro ⟨h, -⟩; exact (List.length_eq_zero_iff.mp h).symm
  | succ n ih =>
    simp only [bufReadN]
    constructor
    · intro h
      split at h
      · simp at h
      · next b hb =>
        split at h
        · simp at h
        · next bs' hbs =>
          obtain ⟨hl, hr⟩ := ih.mp hbs
          simp only [Except.ok.injEq] at h
          subst h
          refine ⟨by simp [hl], fun k hk => ?_⟩
          cases k with
          | zero => simpa using bufRead_ok.mp hb
          | succ k =>
            have := hr k (by simpa using hk)
            simpa [Nat.add_assoc, Nat.add_comm 1 k] using this
    · rintro ⟨hl, hr⟩
      cases bs with
      | nil => simp at hl
      | cons b t =>
        have h0 : bufRead len m i = .ok b := bufRead_ok.mpr (hr 0 (by simp))
        have ht : bufReadN len m (i + 1) n = .ok t := by
          refine ih.mpr ⟨by simpa using hl, fun k hk => ?_⟩
          have := hr (k + 1) (by simpa using hk)
          simpa [Nat.add_assoc, Nat.add_comm 1 k] using this
        simp [h0, ht]

/-- A range whose bytes are all there is read. -/
theorem bufReadN_total {len : Half} {m : Memory} {i n : Nat} (hle : i + n ≤ len.toNat) (hc : m.Covers len.toNat) :
    ∃ bs, bufReadN len m i n = .ok bs := by
  induction n generalizing i with
  | zero => exact ⟨[], rfl⟩
  | succ n ih =>
    obtain ⟨b, hb⟩ := Option.isSome_iff_exists.mp (hc i (by omega))
    obtain ⟨bs, hbs⟩ := ih (i := i + 1) (by omega)
    have hread : bufRead len m i = .ok b := bufRead_of_read (by omega) hb
    exact ⟨b :: bs, by simp [bufReadN, hread, hbs]⟩

/-- The whole of what storing a string does: it fits, and then every index of the string holds its byte and every other
index what it held. -/
theorem bufWriteAll_spec {cap : Half} (bs : List Byte) (m : Memory) (i : Nat) (h : i + bs.length ≤ cap.toNat) :
    ∃ m', bufWriteAll cap m i bs = .ok m' ∧
      (∀ k (hk : k < bs.length), m'.read (i + k) = some bs[k]) ∧
      (∀ a, (a < i ∨ i + bs.length ≤ a) → m'.read a = m.read a) ∧
      (m.wf = true → m'.wf = true) ∧ (m.below cap.toNat = true → m'.below cap.toNat = true) := by
  induction bs generalizing m i with
  | nil => exact ⟨m, rfl, by simp, by simp, id, id⟩
  | cons b t ih =>
    simp only [List.length_cons] at h
    obtain ⟨m', hm, hin, hout, hwf, hbelow⟩ := ih (m.write i b) (i + 1) (by omega)
    refine ⟨m', by simp [bufWriteAll, bufWrite_of_lt b (show i < cap.toNat by omega), hm], ?_, ?_, ?_, ?_⟩
    · intro k hk
      cases k with
      | zero =>
        have := hout i (.inl (by omega))
        simp [this, Memory.read_write_same]
      | succ k =>
        have := hin k (by simpa using hk)
        simpa [Nat.add_assoc, Nat.add_comm 1 k] using this
    · intro a ha
      simp only [List.length_cons] at ha
      rw [hout a (by omega), Memory.read_write_other m b (by omega)]
    · exact fun hw => hwf (Memory.wf_write m i b hw)
    · exact fun hb => hbelow (Memory.below_write b hb (by omega))

/-- Reading a range back after it has been stored. -/
theorem bufReadN_of_bytes {len : Half} {m : Memory} {bs : List Byte} {i : Nat} (hlen : i + bs.length ≤ len.toNat)
    (h : ∀ k (hk : k < bs.length), m.read (i + k) = some bs[k]) : bufReadN len m i bs.length = .ok bs :=
  bufReadN_ok.mpr ⟨rfl, fun k hk => ⟨by omega, h k hk⟩⟩

/-- Storing one more byte at the end of a buffer makes its bytes one longer. -/
theorem bufReadN_snoc {len : Half} {m : Memory} {bs : List Byte} (b : Byte) (hlt : len.toNat + 1 < 2 ^ 16)
    (h : bufReadN len m 0 len.toNat = .ok bs) :
    bufReadN (len + 1) (m.write len.toNat b) 0 (len + 1).toNat = .ok (bs ++ [b]) := by
  obtain ⟨hl, hr⟩ := bufReadN_ok.mp h
  have hn : (len + 1).toNat = len.toNat + 1 := by rw [BitVec.toNat_add]; simp; omega
  refine bufReadN_ok.mpr ⟨by rw [hn]; simp [hl], fun k hk => ?_⟩
  simp only [List.length_append, List.length_singleton] at hk
  refine ⟨by omega, ?_⟩
  rw [Memory.read_write]
  split
  · next heq => have : k = bs.length := by omega
                subst this; simp
  · next hne =>
    have hk' : k < bs.length := by omega
    have := (hr k hk').2
    simpa [List.getElem_append_left hk'] using this

end Sys2Proof.Machine
end

