-- ==== Sys2Proof/Laws/State.lean ====
section
/-! SUPPORT. Each named update of the state, field by field, so that no proof unfolds a record update. -/

namespace Sys2Proof.Machine

open Sys2Proof

variable (s : State)

/-! ### respond -/

@[simp] theorem State.respond_crc32 (bytes : List Byte) : (s.respond bytes).crc32 = s.crc32 := rfl
@[simp] theorem State.respond_crc16 (bytes : List Byte) : (s.respond bytes).crc16 = s.crc16 := rfl
@[simp] theorem State.respond_ppt (bytes : List Byte) : (s.respond bytes).ppt = s.ppt := rfl
@[simp] theorem State.respond_cfgTimeout (bytes : List Byte) : (s.respond bytes).cfgTimeout = s.cfgTimeout := rfl
@[simp] theorem State.respond_cfgGrace (bytes : List Byte) : (s.respond bytes).cfgGrace = s.cfgGrace := rfl
@[simp] theorem State.respond_frameBuf (bytes : List Byte) : (s.respond bytes).frameBuf = s.frameBuf := rfl
@[simp] theorem State.respond_frameLen (bytes : List Byte) : (s.respond bytes).frameLen = s.frameLen := rfl
@[simp] theorem State.respond_rxBuf (bytes : List Byte) : (s.respond bytes).rxBuf = s.rxBuf := rfl
@[simp] theorem State.respond_rxLen (bytes : List Byte) : (s.respond bytes).rxLen = s.rxLen := rfl
@[simp] theorem State.respond_rxTotal (bytes : List Byte) : (s.respond bytes).rxTotal = s.rxTotal := rfl
@[simp] theorem State.respond_cstate (bytes : List Byte) : (s.respond bytes).cstate = s.cstate := rfl
@[simp] theorem State.respond_outcome (bytes : List Byte) : (s.respond bytes).outcome = s.outcome := rfl
@[simp] theorem State.respond_flags (bytes : List Byte) : (s.respond bytes).flags = s.flags := rfl
@[simp] theorem State.respond_respCmd (bytes : List Byte) : (s.respond bytes).respCmd = s.respCmd := rfl
@[simp] theorem State.respond_respResult (bytes : List Byte) : (s.respond bytes).respResult = s.respResult := rfl
@[simp] theorem State.respond_elapsed (bytes : List Byte) : (s.respond bytes).elapsed = s.elapsed := rfl
@[simp] theorem State.respond_silence (bytes : List Byte) : (s.respond bytes).silence = s.silence := rfl
@[simp] theorem State.respond_xTimeout (bytes : List Byte) : (s.respond bytes).xTimeout = s.xTimeout := rfl
@[simp] theorem State.respond_xGrace (bytes : List Byte) : (s.respond bytes).xGrace = s.xGrace := rfl
@[simp] theorem State.respond_txTrace (bytes : List Byte) : (s.respond bytes).txTrace = s.txTrace := rfl
@[simp] theorem State.respond_params (bytes : List Byte) : (s.respond bytes).params = s.params := rfl
@[simp] theorem State.respond_inputs (bytes : List Byte) : (s.respond bytes).inputs = s.inputs := rfl
@[simp] theorem State.respond_responses (bytes : List Byte) : (s.respond bytes).responses = s.responses ++ [Status.ok.code :: bytes] := rfl

/-! ### fail -/

@[simp] theorem State.fail_crc32 (st : Status) : (s.fail st).crc32 = s.crc32 := rfl
@[simp] theorem State.fail_crc16 (st : Status) : (s.fail st).crc16 = s.crc16 := rfl
@[simp] theorem State.fail_ppt (st : Status) : (s.fail st).ppt = s.ppt := rfl
@[simp] theorem State.fail_cfgTimeout (st : Status) : (s.fail st).cfgTimeout = s.cfgTimeout := rfl
@[simp] theorem State.fail_cfgGrace (st : Status) : (s.fail st).cfgGrace = s.cfgGrace := rfl
@[simp] theorem State.fail_frameBuf (st : Status) : (s.fail st).frameBuf = s.frameBuf := rfl
@[simp] theorem State.fail_frameLen (st : Status) : (s.fail st).frameLen = s.frameLen := rfl
@[simp] theorem State.fail_rxBuf (st : Status) : (s.fail st).rxBuf = s.rxBuf := rfl
@[simp] theorem State.fail_rxLen (st : Status) : (s.fail st).rxLen = s.rxLen := rfl
@[simp] theorem State.fail_rxTotal (st : Status) : (s.fail st).rxTotal = s.rxTotal := rfl
@[simp] theorem State.fail_cstate (st : Status) : (s.fail st).cstate = s.cstate := rfl
@[simp] theorem State.fail_outcome (st : Status) : (s.fail st).outcome = s.outcome := rfl
@[simp] theorem State.fail_flags (st : Status) : (s.fail st).flags = s.flags := rfl
@[simp] theorem State.fail_respCmd (st : Status) : (s.fail st).respCmd = s.respCmd := rfl
@[simp] theorem State.fail_respResult (st : Status) : (s.fail st).respResult = s.respResult := rfl
@[simp] theorem State.fail_elapsed (st : Status) : (s.fail st).elapsed = s.elapsed := rfl
@[simp] theorem State.fail_silence (st : Status) : (s.fail st).silence = s.silence := rfl
@[simp] theorem State.fail_xTimeout (st : Status) : (s.fail st).xTimeout = s.xTimeout := rfl
@[simp] theorem State.fail_xGrace (st : Status) : (s.fail st).xGrace = s.xGrace := rfl
@[simp] theorem State.fail_txTrace (st : Status) : (s.fail st).txTrace = s.txTrace := rfl
@[simp] theorem State.fail_params (st : Status) : (s.fail st).params = s.params := rfl
@[simp] theorem State.fail_inputs (st : Status) : (s.fail st).inputs = s.inputs := rfl
@[simp] theorem State.fail_responses (st : Status) : (s.fail st).responses = s.responses ++ [[st.code]] := rfl

/-! ### withInputs -/

@[simp] theorem State.withInputs_crc32 (l : List Input) : (s.withInputs l).crc32 = s.crc32 := rfl
@[simp] theorem State.withInputs_crc16 (l : List Input) : (s.withInputs l).crc16 = s.crc16 := rfl
@[simp] theorem State.withInputs_ppt (l : List Input) : (s.withInputs l).ppt = s.ppt := rfl
@[simp] theorem State.withInputs_cfgTimeout (l : List Input) : (s.withInputs l).cfgTimeout = s.cfgTimeout := rfl
@[simp] theorem State.withInputs_cfgGrace (l : List Input) : (s.withInputs l).cfgGrace = s.cfgGrace := rfl
@[simp] theorem State.withInputs_frameBuf (l : List Input) : (s.withInputs l).frameBuf = s.frameBuf := rfl
@[simp] theorem State.withInputs_frameLen (l : List Input) : (s.withInputs l).frameLen = s.frameLen := rfl
@[simp] theorem State.withInputs_rxBuf (l : List Input) : (s.withInputs l).rxBuf = s.rxBuf := rfl
@[simp] theorem State.withInputs_rxLen (l : List Input) : (s.withInputs l).rxLen = s.rxLen := rfl
@[simp] theorem State.withInputs_rxTotal (l : List Input) : (s.withInputs l).rxTotal = s.rxTotal := rfl
@[simp] theorem State.withInputs_cstate (l : List Input) : (s.withInputs l).cstate = s.cstate := rfl
@[simp] theorem State.withInputs_outcome (l : List Input) : (s.withInputs l).outcome = s.outcome := rfl
@[simp] theorem State.withInputs_flags (l : List Input) : (s.withInputs l).flags = s.flags := rfl
@[simp] theorem State.withInputs_respCmd (l : List Input) : (s.withInputs l).respCmd = s.respCmd := rfl
@[simp] theorem State.withInputs_respResult (l : List Input) : (s.withInputs l).respResult = s.respResult := rfl
@[simp] theorem State.withInputs_elapsed (l : List Input) : (s.withInputs l).elapsed = s.elapsed := rfl
@[simp] theorem State.withInputs_silence (l : List Input) : (s.withInputs l).silence = s.silence := rfl
@[simp] theorem State.withInputs_xTimeout (l : List Input) : (s.withInputs l).xTimeout = s.xTimeout := rfl
@[simp] theorem State.withInputs_xGrace (l : List Input) : (s.withInputs l).xGrace = s.xGrace := rfl
@[simp] theorem State.withInputs_txTrace (l : List Input) : (s.withInputs l).txTrace = s.txTrace := rfl
@[simp] theorem State.withInputs_params (l : List Input) : (s.withInputs l).params = s.params := rfl
@[simp] theorem State.withInputs_inputs (l : List Input) : (s.withInputs l).inputs = l := rfl
@[simp] theorem State.withInputs_responses (l : List Input) : (s.withInputs l).responses = s.responses := rfl

/-! ### setCrc32 -/

@[simp] theorem State.setCrc32_crc32 (c : Word) : (s.setCrc32 c).crc32 = c := rfl
@[simp] theorem State.setCrc32_crc16 (c : Word) : (s.setCrc32 c).crc16 = s.crc16 := rfl
@[simp] theorem State.setCrc32_ppt (c : Word) : (s.setCrc32 c).ppt = s.ppt := rfl
@[simp] theorem State.setCrc32_cfgTimeout (c : Word) : (s.setCrc32 c).cfgTimeout = s.cfgTimeout := rfl
@[simp] theorem State.setCrc32_cfgGrace (c : Word) : (s.setCrc32 c).cfgGrace = s.cfgGrace := rfl
@[simp] theorem State.setCrc32_frameBuf (c : Word) : (s.setCrc32 c).frameBuf = s.frameBuf := rfl
@[simp] theorem State.setCrc32_frameLen (c : Word) : (s.setCrc32 c).frameLen = s.frameLen := rfl
@[simp] theorem State.setCrc32_rxBuf (c : Word) : (s.setCrc32 c).rxBuf = s.rxBuf := rfl
@[simp] theorem State.setCrc32_rxLen (c : Word) : (s.setCrc32 c).rxLen = s.rxLen := rfl
@[simp] theorem State.setCrc32_rxTotal (c : Word) : (s.setCrc32 c).rxTotal = s.rxTotal := rfl
@[simp] theorem State.setCrc32_cstate (c : Word) : (s.setCrc32 c).cstate = s.cstate := rfl
@[simp] theorem State.setCrc32_outcome (c : Word) : (s.setCrc32 c).outcome = s.outcome := rfl
@[simp] theorem State.setCrc32_flags (c : Word) : (s.setCrc32 c).flags = s.flags := rfl
@[simp] theorem State.setCrc32_respCmd (c : Word) : (s.setCrc32 c).respCmd = s.respCmd := rfl
@[simp] theorem State.setCrc32_respResult (c : Word) : (s.setCrc32 c).respResult = s.respResult := rfl
@[simp] theorem State.setCrc32_elapsed (c : Word) : (s.setCrc32 c).elapsed = s.elapsed := rfl
@[simp] theorem State.setCrc32_silence (c : Word) : (s.setCrc32 c).silence = s.silence := rfl
@[simp] theorem State.setCrc32_xTimeout (c : Word) : (s.setCrc32 c).xTimeout = s.xTimeout := rfl
@[simp] theorem State.setCrc32_xGrace (c : Word) : (s.setCrc32 c).xGrace = s.xGrace := rfl
@[simp] theorem State.setCrc32_txTrace (c : Word) : (s.setCrc32 c).txTrace = s.txTrace := rfl
@[simp] theorem State.setCrc32_params (c : Word) : (s.setCrc32 c).params = s.params := rfl
@[simp] theorem State.setCrc32_inputs (c : Word) : (s.setCrc32 c).inputs = s.inputs := rfl
@[simp] theorem State.setCrc32_responses (c : Word) : (s.setCrc32 c).responses = s.responses := rfl

/-! ### setCrc16 -/

@[simp] theorem State.setCrc16_crc32 (c : Half) : (s.setCrc16 c).crc32 = s.crc32 := rfl
@[simp] theorem State.setCrc16_crc16 (c : Half) : (s.setCrc16 c).crc16 = c := rfl
@[simp] theorem State.setCrc16_ppt (c : Half) : (s.setCrc16 c).ppt = s.ppt := rfl
@[simp] theorem State.setCrc16_cfgTimeout (c : Half) : (s.setCrc16 c).cfgTimeout = s.cfgTimeout := rfl
@[simp] theorem State.setCrc16_cfgGrace (c : Half) : (s.setCrc16 c).cfgGrace = s.cfgGrace := rfl
@[simp] theorem State.setCrc16_frameBuf (c : Half) : (s.setCrc16 c).frameBuf = s.frameBuf := rfl
@[simp] theorem State.setCrc16_frameLen (c : Half) : (s.setCrc16 c).frameLen = s.frameLen := rfl
@[simp] theorem State.setCrc16_rxBuf (c : Half) : (s.setCrc16 c).rxBuf = s.rxBuf := rfl
@[simp] theorem State.setCrc16_rxLen (c : Half) : (s.setCrc16 c).rxLen = s.rxLen := rfl
@[simp] theorem State.setCrc16_rxTotal (c : Half) : (s.setCrc16 c).rxTotal = s.rxTotal := rfl
@[simp] theorem State.setCrc16_cstate (c : Half) : (s.setCrc16 c).cstate = s.cstate := rfl
@[simp] theorem State.setCrc16_outcome (c : Half) : (s.setCrc16 c).outcome = s.outcome := rfl
@[simp] theorem State.setCrc16_flags (c : Half) : (s.setCrc16 c).flags = s.flags := rfl
@[simp] theorem State.setCrc16_respCmd (c : Half) : (s.setCrc16 c).respCmd = s.respCmd := rfl
@[simp] theorem State.setCrc16_respResult (c : Half) : (s.setCrc16 c).respResult = s.respResult := rfl
@[simp] theorem State.setCrc16_elapsed (c : Half) : (s.setCrc16 c).elapsed = s.elapsed := rfl
@[simp] theorem State.setCrc16_silence (c : Half) : (s.setCrc16 c).silence = s.silence := rfl
@[simp] theorem State.setCrc16_xTimeout (c : Half) : (s.setCrc16 c).xTimeout = s.xTimeout := rfl
@[simp] theorem State.setCrc16_xGrace (c : Half) : (s.setCrc16 c).xGrace = s.xGrace := rfl
@[simp] theorem State.setCrc16_txTrace (c : Half) : (s.setCrc16 c).txTrace = s.txTrace := rfl
@[simp] theorem State.setCrc16_params (c : Half) : (s.setCrc16 c).params = s.params := rfl
@[simp] theorem State.setCrc16_inputs (c : Half) : (s.setCrc16 c).inputs = s.inputs := rfl
@[simp] theorem State.setCrc16_responses (c : Half) : (s.setCrc16 c).responses = s.responses := rfl

/-! ### setPpt -/

@[simp] theorem State.setPpt_crc32 (v : Byte) : (s.setPpt v).crc32 = s.crc32 := rfl
@[simp] theorem State.setPpt_crc16 (v : Byte) : (s.setPpt v).crc16 = s.crc16 := rfl
@[simp] theorem State.setPpt_ppt (v : Byte) : (s.setPpt v).ppt = v := rfl
@[simp] theorem State.setPpt_cfgTimeout (v : Byte) : (s.setPpt v).cfgTimeout = s.cfgTimeout := rfl
@[simp] theorem State.setPpt_cfgGrace (v : Byte) : (s.setPpt v).cfgGrace = s.cfgGrace := rfl
@[simp] theorem State.setPpt_frameBuf (v : Byte) : (s.setPpt v).frameBuf = s.frameBuf := rfl
@[simp] theorem State.setPpt_frameLen (v : Byte) : (s.setPpt v).frameLen = s.frameLen := rfl
@[simp] theorem State.setPpt_rxBuf (v : Byte) : (s.setPpt v).rxBuf = s.rxBuf := rfl
@[simp] theorem State.setPpt_rxLen (v : Byte) : (s.setPpt v).rxLen = s.rxLen := rfl
@[simp] theorem State.setPpt_rxTotal (v : Byte) : (s.setPpt v).rxTotal = s.rxTotal := rfl
@[simp] theorem State.setPpt_cstate (v : Byte) : (s.setPpt v).cstate = s.cstate := rfl
@[simp] theorem State.setPpt_outcome (v : Byte) : (s.setPpt v).outcome = s.outcome := rfl
@[simp] theorem State.setPpt_flags (v : Byte) : (s.setPpt v).flags = s.flags := rfl
@[simp] theorem State.setPpt_respCmd (v : Byte) : (s.setPpt v).respCmd = s.respCmd := rfl
@[simp] theorem State.setPpt_respResult (v : Byte) : (s.setPpt v).respResult = s.respResult := rfl
@[simp] theorem State.setPpt_elapsed (v : Byte) : (s.setPpt v).elapsed = s.elapsed := rfl
@[simp] theorem State.setPpt_silence (v : Byte) : (s.setPpt v).silence = s.silence := rfl
@[simp] theorem State.setPpt_xTimeout (v : Byte) : (s.setPpt v).xTimeout = s.xTimeout := rfl
@[simp] theorem State.setPpt_xGrace (v : Byte) : (s.setPpt v).xGrace = s.xGrace := rfl
@[simp] theorem State.setPpt_txTrace (v : Byte) : (s.setPpt v).txTrace = s.txTrace := rfl
@[simp] theorem State.setPpt_params (v : Byte) : (s.setPpt v).params = s.params := rfl
@[simp] theorem State.setPpt_inputs (v : Byte) : (s.setPpt v).inputs = s.inputs := rfl
@[simp] theorem State.setPpt_responses (v : Byte) : (s.setPpt v).responses = s.responses := rfl

/-! ### setCfgTimeout -/

@[simp] theorem State.setCfgTimeout_crc32 (v : Word) : (s.setCfgTimeout v).crc32 = s.crc32 := rfl
@[simp] theorem State.setCfgTimeout_crc16 (v : Word) : (s.setCfgTimeout v).crc16 = s.crc16 := rfl
@[simp] theorem State.setCfgTimeout_ppt (v : Word) : (s.setCfgTimeout v).ppt = s.ppt := rfl
@[simp] theorem State.setCfgTimeout_cfgTimeout (v : Word) : (s.setCfgTimeout v).cfgTimeout = v := rfl
@[simp] theorem State.setCfgTimeout_cfgGrace (v : Word) : (s.setCfgTimeout v).cfgGrace = s.cfgGrace := rfl
@[simp] theorem State.setCfgTimeout_frameBuf (v : Word) : (s.setCfgTimeout v).frameBuf = s.frameBuf := rfl
@[simp] theorem State.setCfgTimeout_frameLen (v : Word) : (s.setCfgTimeout v).frameLen = s.frameLen := rfl
@[simp] theorem State.setCfgTimeout_rxBuf (v : Word) : (s.setCfgTimeout v).rxBuf = s.rxBuf := rfl
@[simp] theorem State.setCfgTimeout_rxLen (v : Word) : (s.setCfgTimeout v).rxLen = s.rxLen := rfl
@[simp] theorem State.setCfgTimeout_rxTotal (v : Word) : (s.setCfgTimeout v).rxTotal = s.rxTotal := rfl
@[simp] theorem State.setCfgTimeout_cstate (v : Word) : (s.setCfgTimeout v).cstate = s.cstate := rfl
@[simp] theorem State.setCfgTimeout_outcome (v : Word) : (s.setCfgTimeout v).outcome = s.outcome := rfl
@[simp] theorem State.setCfgTimeout_flags (v : Word) : (s.setCfgTimeout v).flags = s.flags := rfl
@[simp] theorem State.setCfgTimeout_respCmd (v : Word) : (s.setCfgTimeout v).respCmd = s.respCmd := rfl
@[simp] theorem State.setCfgTimeout_respResult (v : Word) : (s.setCfgTimeout v).respResult = s.respResult := rfl
@[simp] theorem State.setCfgTimeout_elapsed (v : Word) : (s.setCfgTimeout v).elapsed = s.elapsed := rfl
@[simp] theorem State.setCfgTimeout_silence (v : Word) : (s.setCfgTimeout v).silence = s.silence := rfl
@[simp] theorem State.setCfgTimeout_xTimeout (v : Word) : (s.setCfgTimeout v).xTimeout = s.xTimeout := rfl
@[simp] theorem State.setCfgTimeout_xGrace (v : Word) : (s.setCfgTimeout v).xGrace = s.xGrace := rfl
@[simp] theorem State.setCfgTimeout_txTrace (v : Word) : (s.setCfgTimeout v).txTrace = s.txTrace := rfl
@[simp] theorem State.setCfgTimeout_params (v : Word) : (s.setCfgTimeout v).params = s.params := rfl
@[simp] theorem State.setCfgTimeout_inputs (v : Word) : (s.setCfgTimeout v).inputs = s.inputs := rfl
@[simp] theorem State.setCfgTimeout_responses (v : Word) : (s.setCfgTimeout v).responses = s.responses := rfl

/-! ### setCfgGrace -/

@[simp] theorem State.setCfgGrace_crc32 (v : Word) : (s.setCfgGrace v).crc32 = s.crc32 := rfl
@[simp] theorem State.setCfgGrace_crc16 (v : Word) : (s.setCfgGrace v).crc16 = s.crc16 := rfl
@[simp] theorem State.setCfgGrace_ppt (v : Word) : (s.setCfgGrace v).ppt = s.ppt := rfl
@[simp] theorem State.setCfgGrace_cfgTimeout (v : Word) : (s.setCfgGrace v).cfgTimeout = s.cfgTimeout := rfl
@[simp] theorem State.setCfgGrace_cfgGrace (v : Word) : (s.setCfgGrace v).cfgGrace = v := rfl
@[simp] theorem State.setCfgGrace_frameBuf (v : Word) : (s.setCfgGrace v).frameBuf = s.frameBuf := rfl
@[simp] theorem State.setCfgGrace_frameLen (v : Word) : (s.setCfgGrace v).frameLen = s.frameLen := rfl
@[simp] theorem State.setCfgGrace_rxBuf (v : Word) : (s.setCfgGrace v).rxBuf = s.rxBuf := rfl
@[simp] theorem State.setCfgGrace_rxLen (v : Word) : (s.setCfgGrace v).rxLen = s.rxLen := rfl
@[simp] theorem State.setCfgGrace_rxTotal (v : Word) : (s.setCfgGrace v).rxTotal = s.rxTotal := rfl
@[simp] theorem State.setCfgGrace_cstate (v : Word) : (s.setCfgGrace v).cstate = s.cstate := rfl
@[simp] theorem State.setCfgGrace_outcome (v : Word) : (s.setCfgGrace v).outcome = s.outcome := rfl
@[simp] theorem State.setCfgGrace_flags (v : Word) : (s.setCfgGrace v).flags = s.flags := rfl
@[simp] theorem State.setCfgGrace_respCmd (v : Word) : (s.setCfgGrace v).respCmd = s.respCmd := rfl
@[simp] theorem State.setCfgGrace_respResult (v : Word) : (s.setCfgGrace v).respResult = s.respResult := rfl
@[simp] theorem State.setCfgGrace_elapsed (v : Word) : (s.setCfgGrace v).elapsed = s.elapsed := rfl
@[simp] theorem State.setCfgGrace_silence (v : Word) : (s.setCfgGrace v).silence = s.silence := rfl
@[simp] theorem State.setCfgGrace_xTimeout (v : Word) : (s.setCfgGrace v).xTimeout = s.xTimeout := rfl
@[simp] theorem State.setCfgGrace_xGrace (v : Word) : (s.setCfgGrace v).xGrace = s.xGrace := rfl
@[simp] theorem State.setCfgGrace_txTrace (v : Word) : (s.setCfgGrace v).txTrace = s.txTrace := rfl
@[simp] theorem State.setCfgGrace_params (v : Word) : (s.setCfgGrace v).params = s.params := rfl
@[simp] theorem State.setCfgGrace_inputs (v : Word) : (s.setCfgGrace v).inputs = s.inputs := rfl
@[simp] theorem State.setCfgGrace_responses (v : Word) : (s.setCfgGrace v).responses = s.responses := rfl

/-! ### setFrame -/

@[simp] theorem State.setFrame_crc32 (m : Memory) (n : Half) : (s.setFrame m n).crc32 = s.crc32 := rfl
@[simp] theorem State.setFrame_crc16 (m : Memory) (n : Half) : (s.setFrame m n).crc16 = s.crc16 := rfl
@[simp] theorem State.setFrame_ppt (m : Memory) (n : Half) : (s.setFrame m n).ppt = s.ppt := rfl
@[simp] theorem State.setFrame_cfgTimeout (m : Memory) (n : Half) : (s.setFrame m n).cfgTimeout = s.cfgTimeout := rfl
@[simp] theorem State.setFrame_cfgGrace (m : Memory) (n : Half) : (s.setFrame m n).cfgGrace = s.cfgGrace := rfl
@[simp] theorem State.setFrame_frameBuf (m : Memory) (n : Half) : (s.setFrame m n).frameBuf = m := rfl
@[simp] theorem State.setFrame_frameLen (m : Memory) (n : Half) : (s.setFrame m n).frameLen = n := rfl
@[simp] theorem State.setFrame_rxBuf (m : Memory) (n : Half) : (s.setFrame m n).rxBuf = s.rxBuf := rfl
@[simp] theorem State.setFrame_rxLen (m : Memory) (n : Half) : (s.setFrame m n).rxLen = s.rxLen := rfl
@[simp] theorem State.setFrame_rxTotal (m : Memory) (n : Half) : (s.setFrame m n).rxTotal = s.rxTotal := rfl
@[simp] theorem State.setFrame_cstate (m : Memory) (n : Half) : (s.setFrame m n).cstate = s.cstate := rfl
@[simp] theorem State.setFrame_outcome (m : Memory) (n : Half) : (s.setFrame m n).outcome = s.outcome := rfl
@[simp] theorem State.setFrame_flags (m : Memory) (n : Half) : (s.setFrame m n).flags = s.flags := rfl
@[simp] theorem State.setFrame_respCmd (m : Memory) (n : Half) : (s.setFrame m n).respCmd = s.respCmd := rfl
@[simp] theorem State.setFrame_respResult (m : Memory) (n : Half) : (s.setFrame m n).respResult = s.respResult := rfl
@[simp] theorem State.setFrame_elapsed (m : Memory) (n : Half) : (s.setFrame m n).elapsed = s.elapsed := rfl
@[simp] theorem State.setFrame_silence (m : Memory) (n : Half) : (s.setFrame m n).silence = s.silence := rfl
@[simp] theorem State.setFrame_xTimeout (m : Memory) (n : Half) : (s.setFrame m n).xTimeout = s.xTimeout := rfl
@[simp] theorem State.setFrame_xGrace (m : Memory) (n : Half) : (s.setFrame m n).xGrace = s.xGrace := rfl
@[simp] theorem State.setFrame_txTrace (m : Memory) (n : Half) : (s.setFrame m n).txTrace = s.txTrace := rfl
@[simp] theorem State.setFrame_params (m : Memory) (n : Half) : (s.setFrame m n).params = s.params := rfl
@[simp] theorem State.setFrame_inputs (m : Memory) (n : Half) : (s.setFrame m n).inputs = s.inputs := rfl
@[simp] theorem State.setFrame_responses (m : Memory) (n : Half) : (s.setFrame m n).responses = s.responses := rfl

/-! ### setRx -/

@[simp] theorem State.setRx_crc32 (m : Memory) (n : Half) : (s.setRx m n).crc32 = s.crc32 := rfl
@[simp] theorem State.setRx_crc16 (m : Memory) (n : Half) : (s.setRx m n).crc16 = s.crc16 := rfl
@[simp] theorem State.setRx_ppt (m : Memory) (n : Half) : (s.setRx m n).ppt = s.ppt := rfl
@[simp] theorem State.setRx_cfgTimeout (m : Memory) (n : Half) : (s.setRx m n).cfgTimeout = s.cfgTimeout := rfl
@[simp] theorem State.setRx_cfgGrace (m : Memory) (n : Half) : (s.setRx m n).cfgGrace = s.cfgGrace := rfl
@[simp] theorem State.setRx_frameBuf (m : Memory) (n : Half) : (s.setRx m n).frameBuf = s.frameBuf := rfl
@[simp] theorem State.setRx_frameLen (m : Memory) (n : Half) : (s.setRx m n).frameLen = s.frameLen := rfl
@[simp] theorem State.setRx_rxBuf (m : Memory) (n : Half) : (s.setRx m n).rxBuf = m := rfl
@[simp] theorem State.setRx_rxLen (m : Memory) (n : Half) : (s.setRx m n).rxLen = n := rfl
@[simp] theorem State.setRx_rxTotal (m : Memory) (n : Half) : (s.setRx m n).rxTotal = s.rxTotal := rfl
@[simp] theorem State.setRx_cstate (m : Memory) (n : Half) : (s.setRx m n).cstate = s.cstate := rfl
@[simp] theorem State.setRx_outcome (m : Memory) (n : Half) : (s.setRx m n).outcome = s.outcome := rfl
@[simp] theorem State.setRx_flags (m : Memory) (n : Half) : (s.setRx m n).flags = s.flags := rfl
@[simp] theorem State.setRx_respCmd (m : Memory) (n : Half) : (s.setRx m n).respCmd = s.respCmd := rfl
@[simp] theorem State.setRx_respResult (m : Memory) (n : Half) : (s.setRx m n).respResult = s.respResult := rfl
@[simp] theorem State.setRx_elapsed (m : Memory) (n : Half) : (s.setRx m n).elapsed = s.elapsed := rfl
@[simp] theorem State.setRx_silence (m : Memory) (n : Half) : (s.setRx m n).silence = s.silence := rfl
@[simp] theorem State.setRx_xTimeout (m : Memory) (n : Half) : (s.setRx m n).xTimeout = s.xTimeout := rfl
@[simp] theorem State.setRx_xGrace (m : Memory) (n : Half) : (s.setRx m n).xGrace = s.xGrace := rfl
@[simp] theorem State.setRx_txTrace (m : Memory) (n : Half) : (s.setRx m n).txTrace = s.txTrace := rfl
@[simp] theorem State.setRx_params (m : Memory) (n : Half) : (s.setRx m n).params = s.params := rfl
@[simp] theorem State.setRx_inputs (m : Memory) (n : Half) : (s.setRx m n).inputs = s.inputs := rfl
@[simp] theorem State.setRx_responses (m : Memory) (n : Half) : (s.setRx m n).responses = s.responses := rfl

/-! ### mark -/

@[simp] theorem State.mark_crc32 (bit : Byte) : (s.mark bit).crc32 = s.crc32 := rfl
@[simp] theorem State.mark_crc16 (bit : Byte) : (s.mark bit).crc16 = s.crc16 := rfl
@[simp] theorem State.mark_ppt (bit : Byte) : (s.mark bit).ppt = s.ppt := rfl
@[simp] theorem State.mark_cfgTimeout (bit : Byte) : (s.mark bit).cfgTimeout = s.cfgTimeout := rfl
@[simp] theorem State.mark_cfgGrace (bit : Byte) : (s.mark bit).cfgGrace = s.cfgGrace := rfl
@[simp] theorem State.mark_frameBuf (bit : Byte) : (s.mark bit).frameBuf = s.frameBuf := rfl
@[simp] theorem State.mark_frameLen (bit : Byte) : (s.mark bit).frameLen = s.frameLen := rfl
@[simp] theorem State.mark_rxBuf (bit : Byte) : (s.mark bit).rxBuf = s.rxBuf := rfl
@[simp] theorem State.mark_rxLen (bit : Byte) : (s.mark bit).rxLen = s.rxLen := rfl
@[simp] theorem State.mark_rxTotal (bit : Byte) : (s.mark bit).rxTotal = s.rxTotal := rfl
@[simp] theorem State.mark_cstate (bit : Byte) : (s.mark bit).cstate = s.cstate := rfl
@[simp] theorem State.mark_outcome (bit : Byte) : (s.mark bit).outcome = s.outcome := rfl
@[simp] theorem State.mark_flags (bit : Byte) : (s.mark bit).flags = setFlag s.flags bit := rfl
@[simp] theorem State.mark_respCmd (bit : Byte) : (s.mark bit).respCmd = s.respCmd := rfl
@[simp] theorem State.mark_respResult (bit : Byte) : (s.mark bit).respResult = s.respResult := rfl
@[simp] theorem State.mark_elapsed (bit : Byte) : (s.mark bit).elapsed = s.elapsed := rfl
@[simp] theorem State.mark_silence (bit : Byte) : (s.mark bit).silence = s.silence := rfl
@[simp] theorem State.mark_xTimeout (bit : Byte) : (s.mark bit).xTimeout = s.xTimeout := rfl
@[simp] theorem State.mark_xGrace (bit : Byte) : (s.mark bit).xGrace = s.xGrace := rfl
@[simp] theorem State.mark_txTrace (bit : Byte) : (s.mark bit).txTrace = s.txTrace := rfl
@[simp] theorem State.mark_params (bit : Byte) : (s.mark bit).params = s.params := rfl
@[simp] theorem State.mark_inputs (bit : Byte) : (s.mark bit).inputs = s.inputs := rfl
@[simp] theorem State.mark_responses (bit : Byte) : (s.mark bit).responses = s.responses := rfl

/-! ### emit -/

@[simp] theorem State.emit_crc32 (bytes : List Byte) : (s.emit bytes).crc32 = s.crc32 := rfl
@[simp] theorem State.emit_crc16 (bytes : List Byte) : (s.emit bytes).crc16 = s.crc16 := rfl
@[simp] theorem State.emit_ppt (bytes : List Byte) : (s.emit bytes).ppt = s.ppt := rfl
@[simp] theorem State.emit_cfgTimeout (bytes : List Byte) : (s.emit bytes).cfgTimeout = s.cfgTimeout := rfl
@[simp] theorem State.emit_cfgGrace (bytes : List Byte) : (s.emit bytes).cfgGrace = s.cfgGrace := rfl
@[simp] theorem State.emit_frameBuf (bytes : List Byte) : (s.emit bytes).frameBuf = s.frameBuf := rfl
@[simp] theorem State.emit_frameLen (bytes : List Byte) : (s.emit bytes).frameLen = s.frameLen := rfl
@[simp] theorem State.emit_rxBuf (bytes : List Byte) : (s.emit bytes).rxBuf = s.rxBuf := rfl
@[simp] theorem State.emit_rxLen (bytes : List Byte) : (s.emit bytes).rxLen = s.rxLen := rfl
@[simp] theorem State.emit_rxTotal (bytes : List Byte) : (s.emit bytes).rxTotal = s.rxTotal := rfl
@[simp] theorem State.emit_cstate (bytes : List Byte) : (s.emit bytes).cstate = s.cstate := rfl
@[simp] theorem State.emit_outcome (bytes : List Byte) : (s.emit bytes).outcome = s.outcome := rfl
@[simp] theorem State.emit_flags (bytes : List Byte) : (s.emit bytes).flags = s.flags := rfl
@[simp] theorem State.emit_respCmd (bytes : List Byte) : (s.emit bytes).respCmd = s.respCmd := rfl
@[simp] theorem State.emit_respResult (bytes : List Byte) : (s.emit bytes).respResult = s.respResult := rfl
@[simp] theorem State.emit_elapsed (bytes : List Byte) : (s.emit bytes).elapsed = s.elapsed := rfl
@[simp] theorem State.emit_silence (bytes : List Byte) : (s.emit bytes).silence = s.silence := rfl
@[simp] theorem State.emit_xTimeout (bytes : List Byte) : (s.emit bytes).xTimeout = s.xTimeout := rfl
@[simp] theorem State.emit_xGrace (bytes : List Byte) : (s.emit bytes).xGrace = s.xGrace := rfl
@[simp] theorem State.emit_txTrace (bytes : List Byte) : (s.emit bytes).txTrace = s.txTrace ++ bytes := rfl
@[simp] theorem State.emit_params (bytes : List Byte) : (s.emit bytes).params = s.params := rfl
@[simp] theorem State.emit_inputs (bytes : List Byte) : (s.emit bytes).inputs = s.inputs := rfl
@[simp] theorem State.emit_responses (bytes : List Byte) : (s.emit bytes).responses = s.responses := rfl

/-! ### countByte -/

@[simp] theorem State.countByte_crc32 : (s.countByte).crc32 = s.crc32 := rfl
@[simp] theorem State.countByte_crc16 : (s.countByte).crc16 = s.crc16 := rfl
@[simp] theorem State.countByte_ppt : (s.countByte).ppt = s.ppt := rfl
@[simp] theorem State.countByte_cfgTimeout : (s.countByte).cfgTimeout = s.cfgTimeout := rfl
@[simp] theorem State.countByte_cfgGrace : (s.countByte).cfgGrace = s.cfgGrace := rfl
@[simp] theorem State.countByte_frameBuf : (s.countByte).frameBuf = s.frameBuf := rfl
@[simp] theorem State.countByte_frameLen : (s.countByte).frameLen = s.frameLen := rfl
@[simp] theorem State.countByte_rxBuf : (s.countByte).rxBuf = s.rxBuf := rfl
@[simp] theorem State.countByte_rxLen : (s.countByte).rxLen = s.rxLen := rfl
@[simp] theorem State.countByte_rxTotal : (s.countByte).rxTotal = satInc s.rxTotal := rfl
@[simp] theorem State.countByte_cstate : (s.countByte).cstate = s.cstate := rfl
@[simp] theorem State.countByte_outcome : (s.countByte).outcome = s.outcome := rfl
@[simp] theorem State.countByte_flags : (s.countByte).flags = s.flags := rfl
@[simp] theorem State.countByte_respCmd : (s.countByte).respCmd = s.respCmd := rfl
@[simp] theorem State.countByte_respResult : (s.countByte).respResult = s.respResult := rfl
@[simp] theorem State.countByte_elapsed : (s.countByte).elapsed = s.elapsed := rfl
@[simp] theorem State.countByte_silence : (s.countByte).silence = 0 := rfl
@[simp] theorem State.countByte_xTimeout : (s.countByte).xTimeout = s.xTimeout := rfl
@[simp] theorem State.countByte_xGrace : (s.countByte).xGrace = s.xGrace := rfl
@[simp] theorem State.countByte_txTrace : (s.countByte).txTrace = s.txTrace := rfl
@[simp] theorem State.countByte_params : (s.countByte).params = s.params := rfl
@[simp] theorem State.countByte_inputs : (s.countByte).inputs = s.inputs := rfl
@[simp] theorem State.countByte_responses : (s.countByte).responses = s.responses := rfl

/-! ### countTick -/

@[simp] theorem State.countTick_crc32 : (s.countTick).crc32 = s.crc32 := rfl
@[simp] theorem State.countTick_crc16 : (s.countTick).crc16 = s.crc16 := rfl
@[simp] theorem State.countTick_ppt : (s.countTick).ppt = s.ppt := rfl
@[simp] theorem State.countTick_cfgTimeout : (s.countTick).cfgTimeout = s.cfgTimeout := rfl
@[simp] theorem State.countTick_cfgGrace : (s.countTick).cfgGrace = s.cfgGrace := rfl
@[simp] theorem State.countTick_frameBuf : (s.countTick).frameBuf = s.frameBuf := rfl
@[simp] theorem State.countTick_frameLen : (s.countTick).frameLen = s.frameLen := rfl
@[simp] theorem State.countTick_rxBuf : (s.countTick).rxBuf = s.rxBuf := rfl
@[simp] theorem State.countTick_rxLen : (s.countTick).rxLen = s.rxLen := rfl
@[simp] theorem State.countTick_rxTotal : (s.countTick).rxTotal = s.rxTotal := rfl
@[simp] theorem State.countTick_cstate : (s.countTick).cstate = s.cstate := rfl
@[simp] theorem State.countTick_outcome : (s.countTick).outcome = s.outcome := rfl
@[simp] theorem State.countTick_flags : (s.countTick).flags = s.flags := rfl
@[simp] theorem State.countTick_respCmd : (s.countTick).respCmd = s.respCmd := rfl
@[simp] theorem State.countTick_respResult : (s.countTick).respResult = s.respResult := rfl
@[simp] theorem State.countTick_elapsed : (s.countTick).elapsed = satInc s.elapsed := rfl
@[simp] theorem State.countTick_silence : (s.countTick).silence = satInc s.silence := rfl
@[simp] theorem State.countTick_xTimeout : (s.countTick).xTimeout = s.xTimeout := rfl
@[simp] theorem State.countTick_xGrace : (s.countTick).xGrace = s.xGrace := rfl
@[simp] theorem State.countTick_txTrace : (s.countTick).txTrace = s.txTrace := rfl
@[simp] theorem State.countTick_params : (s.countTick).params = s.params := rfl
@[simp] theorem State.countTick_inputs : (s.countTick).inputs = s.inputs := rfl
@[simp] theorem State.countTick_responses : (s.countTick).responses = s.responses := rfl

/-! ### finish -/

@[simp] theorem State.finish_crc32 (o : XactOutcome) : (s.finish o).crc32 = s.crc32 := rfl
@[simp] theorem State.finish_crc16 (o : XactOutcome) : (s.finish o).crc16 = s.crc16 := rfl
@[simp] theorem State.finish_ppt (o : XactOutcome) : (s.finish o).ppt = s.ppt := rfl
@[simp] theorem State.finish_cfgTimeout (o : XactOutcome) : (s.finish o).cfgTimeout = s.cfgTimeout := rfl
@[simp] theorem State.finish_cfgGrace (o : XactOutcome) : (s.finish o).cfgGrace = s.cfgGrace := rfl
@[simp] theorem State.finish_frameBuf (o : XactOutcome) : (s.finish o).frameBuf = s.frameBuf := rfl
@[simp] theorem State.finish_frameLen (o : XactOutcome) : (s.finish o).frameLen = s.frameLen := rfl
@[simp] theorem State.finish_rxBuf (o : XactOutcome) : (s.finish o).rxBuf = s.rxBuf := rfl
@[simp] theorem State.finish_rxLen (o : XactOutcome) : (s.finish o).rxLen = s.rxLen := rfl
@[simp] theorem State.finish_rxTotal (o : XactOutcome) : (s.finish o).rxTotal = s.rxTotal := rfl
@[simp] theorem State.finish_cstate (o : XactOutcome) : (s.finish o).cstate = .done := rfl
@[simp] theorem State.finish_outcome (o : XactOutcome) : (s.finish o).outcome = o := rfl
@[simp] theorem State.finish_flags (o : XactOutcome) : (s.finish o).flags = s.flags := rfl
@[simp] theorem State.finish_respCmd (o : XactOutcome) : (s.finish o).respCmd = s.respCmd := rfl
@[simp] theorem State.finish_respResult (o : XactOutcome) : (s.finish o).respResult = s.respResult := rfl
@[simp] theorem State.finish_elapsed (o : XactOutcome) : (s.finish o).elapsed = s.elapsed := rfl
@[simp] theorem State.finish_silence (o : XactOutcome) : (s.finish o).silence = s.silence := rfl
@[simp] theorem State.finish_xTimeout (o : XactOutcome) : (s.finish o).xTimeout = s.xTimeout := rfl
@[simp] theorem State.finish_xGrace (o : XactOutcome) : (s.finish o).xGrace = s.xGrace := rfl
@[simp] theorem State.finish_txTrace (o : XactOutcome) : (s.finish o).txTrace = s.txTrace := rfl
@[simp] theorem State.finish_params (o : XactOutcome) : (s.finish o).params = s.params := rfl
@[simp] theorem State.finish_inputs (o : XactOutcome) : (s.finish o).inputs = s.inputs := rfl
@[simp] theorem State.finish_responses (o : XactOutcome) : (s.finish o).responses = s.responses := rfl

/-! ### complete -/

@[simp] theorem State.complete_crc32 (cmd result : Byte) : (s.complete cmd result).crc32 = s.crc32 := rfl
@[simp] theorem State.complete_crc16 (cmd result : Byte) : (s.complete cmd result).crc16 = s.crc16 := rfl
@[simp] theorem State.complete_ppt (cmd result : Byte) : (s.complete cmd result).ppt = s.ppt := rfl
@[simp] theorem State.complete_cfgTimeout (cmd result : Byte) : (s.complete cmd result).cfgTimeout = s.cfgTimeout := rfl
@[simp] theorem State.complete_cfgGrace (cmd result : Byte) : (s.complete cmd result).cfgGrace = s.cfgGrace := rfl
@[simp] theorem State.complete_frameBuf (cmd result : Byte) : (s.complete cmd result).frameBuf = s.frameBuf := rfl
@[simp] theorem State.complete_frameLen (cmd result : Byte) : (s.complete cmd result).frameLen = s.frameLen := rfl
@[simp] theorem State.complete_rxBuf (cmd result : Byte) : (s.complete cmd result).rxBuf = s.rxBuf := rfl
@[simp] theorem State.complete_rxLen (cmd result : Byte) : (s.complete cmd result).rxLen = s.rxLen := rfl
@[simp] theorem State.complete_rxTotal (cmd result : Byte) : (s.complete cmd result).rxTotal = s.rxTotal := rfl
@[simp] theorem State.complete_cstate (cmd result : Byte) : (s.complete cmd result).cstate = .done := rfl
@[simp] theorem State.complete_outcome (cmd result : Byte) : (s.complete cmd result).outcome = completeOutcome result := rfl
@[simp] theorem State.complete_flags (cmd result : Byte) : (s.complete cmd result).flags = s.flags := rfl
@[simp] theorem State.complete_respCmd (cmd result : Byte) : (s.complete cmd result).respCmd = cmd := rfl
@[simp] theorem State.complete_respResult (cmd result : Byte) : (s.complete cmd result).respResult = result := rfl
@[simp] theorem State.complete_elapsed (cmd result : Byte) : (s.complete cmd result).elapsed = s.elapsed := rfl
@[simp] theorem State.complete_silence (cmd result : Byte) : (s.complete cmd result).silence = s.silence := rfl
@[simp] theorem State.complete_xTimeout (cmd result : Byte) : (s.complete cmd result).xTimeout = s.xTimeout := rfl
@[simp] theorem State.complete_xGrace (cmd result : Byte) : (s.complete cmd result).xGrace = s.xGrace := rfl
@[simp] theorem State.complete_txTrace (cmd result : Byte) : (s.complete cmd result).txTrace = s.txTrace := rfl
@[simp] theorem State.complete_params (cmd result : Byte) : (s.complete cmd result).params = s.params := rfl
@[simp] theorem State.complete_inputs (cmd result : Byte) : (s.complete cmd result).inputs = s.inputs := rfl
@[simp] theorem State.complete_responses (cmd result : Byte) : (s.complete cmd result).responses = s.responses := rfl

/-! ### arm -/

@[simp] theorem State.arm_crc32 (w : Word) : (s.arm w).crc32 = s.crc32 := rfl
@[simp] theorem State.arm_crc16 (w : Word) : (s.arm w).crc16 = s.crc16 := rfl
@[simp] theorem State.arm_ppt (w : Word) : (s.arm w).ppt = s.ppt := rfl
@[simp] theorem State.arm_cfgTimeout (w : Word) : (s.arm w).cfgTimeout = s.cfgTimeout := rfl
@[simp] theorem State.arm_cfgGrace (w : Word) : (s.arm w).cfgGrace = s.cfgGrace := rfl
@[simp] theorem State.arm_frameBuf (w : Word) : (s.arm w).frameBuf = s.frameBuf := rfl
@[simp] theorem State.arm_frameLen (w : Word) : (s.arm w).frameLen = s.frameLen := rfl
@[simp] theorem State.arm_rxBuf (w : Word) : (s.arm w).rxBuf = s.rxBuf := rfl
@[simp] theorem State.arm_rxLen (w : Word) : (s.arm w).rxLen = 0 := rfl
@[simp] theorem State.arm_rxTotal (w : Word) : (s.arm w).rxTotal = 0 := rfl
@[simp] theorem State.arm_cstate (w : Word) : (s.arm w).cstate = .waiting := rfl
@[simp] theorem State.arm_outcome (w : Word) : (s.arm w).outcome = .none := rfl
@[simp] theorem State.arm_flags (w : Word) : (s.arm w).flags = 0x00 := rfl
@[simp] theorem State.arm_respCmd (w : Word) : (s.arm w).respCmd = 0 := rfl
@[simp] theorem State.arm_respResult (w : Word) : (s.arm w).respResult = 0 := rfl
@[simp] theorem State.arm_elapsed (w : Word) : (s.arm w).elapsed = 0 := rfl
@[simp] theorem State.arm_silence (w : Word) : (s.arm w).silence = 0 := rfl
@[simp] theorem State.arm_xTimeout (w : Word) : (s.arm w).xTimeout = w := rfl
@[simp] theorem State.arm_xGrace (w : Word) : (s.arm w).xGrace = s.cfgGrace := rfl
@[simp] theorem State.arm_txTrace (w : Word) : (s.arm w).txTrace = s.txTrace := rfl
@[simp] theorem State.arm_params (w : Word) : (s.arm w).params = s.params := rfl
@[simp] theorem State.arm_inputs (w : Word) : (s.arm w).inputs = s.inputs := rfl
@[simp] theorem State.arm_responses (w : Word) : (s.arm w).responses = s.responses := rfl

/-! ### resetInput -/

@[simp] theorem State.resetInput_crc32 : (s.resetInput).crc32 = 0xFFFFFFFF := rfl
@[simp] theorem State.resetInput_crc16 : (s.resetInput).crc16 = 0x0000 := rfl
@[simp] theorem State.resetInput_ppt : (s.resetInput).ppt = s.params.pptReset := rfl
@[simp] theorem State.resetInput_cfgTimeout : (s.resetInput).cfgTimeout = s.params.timeoutReset := rfl
@[simp] theorem State.resetInput_cfgGrace : (s.resetInput).cfgGrace = s.params.graceReset := rfl
@[simp] theorem State.resetInput_frameBuf : (s.resetInput).frameBuf = [] := rfl
@[simp] theorem State.resetInput_frameLen : (s.resetInput).frameLen = 0 := rfl
@[simp] theorem State.resetInput_rxBuf : (s.resetInput).rxBuf = [] := rfl
@[simp] theorem State.resetInput_rxLen : (s.resetInput).rxLen = 0 := rfl
@[simp] theorem State.resetInput_rxTotal : (s.resetInput).rxTotal = 0 := rfl
@[simp] theorem State.resetInput_cstate : (s.resetInput).cstate = .idle := rfl
@[simp] theorem State.resetInput_outcome : (s.resetInput).outcome = .none := rfl
@[simp] theorem State.resetInput_flags : (s.resetInput).flags = 0x00 := rfl
@[simp] theorem State.resetInput_respCmd : (s.resetInput).respCmd = 0 := rfl
@[simp] theorem State.resetInput_respResult : (s.resetInput).respResult = 0 := rfl
@[simp] theorem State.resetInput_elapsed : (s.resetInput).elapsed = 0 := rfl
@[simp] theorem State.resetInput_silence : (s.resetInput).silence = 0 := rfl
@[simp] theorem State.resetInput_xTimeout : (s.resetInput).xTimeout = 0 := rfl
@[simp] theorem State.resetInput_xGrace : (s.resetInput).xGrace = 0 := rfl
@[simp] theorem State.resetInput_txTrace : (s.resetInput).txTrace = s.txTrace := rfl
@[simp] theorem State.resetInput_params : (s.resetInput).params = s.params := rfl
@[simp] theorem State.resetInput_inputs : (s.resetInput).inputs = s.inputs := rfl
@[simp] theorem State.resetInput_responses : (s.resetInput).responses = s.responses := rfl

end Sys2Proof.Machine
end

