-- ==== Sys2Proof/Laws/Ops.lean ====
section
/-! SUPPORT. For each shared operation, once, everything it can do; and the inversion of a step. -/

namespace Sys2Proof.Machine

open Sys2Proof

/-! ### Shared operations -/

/-- A frame that exceeds TX_CAP is refused. -/
theorem storeFrame_tooLong {f : List Byte} {s : State} (h : s.params.txCap.toNat < f.length) :
    storeFrame f s = .next (s.fail .badValue) := by
  simp [storeFrame, h]

/-- A frame that fits is stored: its bytes at 0 up to its length, every other byte as before. -/
theorem storeFrame_fits {f : List Byte} {s : State} (h : f.length ≤ s.params.txCap.toNat) :
    ∃ m, storeFrame f s = .next ((s.setFrame m (lenHalf f.length)).respond (le16 (lenHalf f.length))) ∧
      (∀ k (hk : k < f.length), m.read k = some f[k]) ∧ (∀ a, f.length ≤ a → m.read a = s.frameBuf.read a) ∧
      (s.frameBuf.wf = true → m.wf = true) ∧
      (s.frameBuf.below s.params.txCap.toNat = true → m.below s.params.txCap.toNat = true) := by
  obtain ⟨m, hm, hin, hout, hwf, hb⟩ := bufWriteAll_spec f s.frameBuf 0 (cap := s.params.txCap) (by simpa using h)
  refine ⟨m, by simp [storeFrame, hm, Nat.not_lt.mpr h], fun k hk => by simpa using hin k hk,
    fun a ha => hout a (by simpa using ha), hwf, hb⟩

/-- Storing a frame never faults: it is refused or it is stored. -/
theorem storeFrame_cases {f : List Byte} {s t : State} (h : storeFrame f s = .next t) :
    (s.params.txCap.toNat < f.length ∧ t = s.fail .badValue) ∨
    (f.length ≤ s.params.txCap.toNat ∧
      ∃ m, t = (s.setFrame m (lenHalf f.length)).respond (le16 (lenHalf f.length)) ∧
        (∀ k (hk : k < f.length), m.read k = some f[k]) ∧ (∀ a, f.length ≤ a → m.read a = s.frameBuf.read a) ∧
        (s.frameBuf.wf = true → m.wf = true) ∧
        (s.frameBuf.below s.params.txCap.toNat = true → m.below s.params.txCap.toNat = true)) := by
  rcases Nat.lt_or_ge s.params.txCap.toNat f.length with hlt | hle
  · rw [storeFrame_tooLong hlt] at h
    exact .inl ⟨hlt, (Host.Outcome.next.inj h).symm⟩
  · obtain ⟨m, hm, hrest⟩ := storeFrame_fits hle
    rw [hm] at h
    exact .inr ⟨hle, m, (Host.Outcome.next.inj h).symm, hrest⟩

/-- The six operations that write the frame buffer are one operation on what they store. -/
theorem exec_storedFrame {s : State} {i : Instr} {f : List Byte} (h : storedFrame s i = some f) :
    exec i s = storeFrame f s := by
  cases i <;> simp only [storedFrame, Option.some.injEq, reduceCtorEq] at h <;> subst h <;>
    simp only [exec, execEncReset, execEncErase, execEncProgram, execEncReadHeader, execEncReadUuid, execFrameLoad]

/-- The stored frame is what the frame buffer holds. -/
theorem frameBytes_setFrame {s : State} {m : Memory} {f : List Byte} (hf : f.length ≤ 65535)
    (h : ∀ k (hk : k < f.length), m.read k = some f[k]) : (s.setFrame m (lenHalf f.length)).frameBytes = .ok f := by
  have := bufReadN_of_bytes (len := lenHalf f.length) (m := m) (bs := f) (i := 0)
    (by simp [lenHalf_toNat hf]) (by simpa using h)
  simpa [State.frameBytes, lenHalf_toNat hf] using this

theorem frameBytes_respond (s : State) (r : List Byte) : (s.respond r).frameBytes = s.frameBytes := rfl

theorem rxBytes_respond (s : State) (r : List Byte) : (s.respond r).rxBytes = s.rxBytes := rfl

theorem rxBytes_withInputs (s : State) (l : List Input) : (s.withInputs l).rxBytes = s.rxBytes := rfl

theorem frameBytes_withInputs (s : State) (l : List Input) : (s.withInputs l).frameBytes = s.frameBytes := rfl

theorem answerBytes_next {s t : State} {r : Except Fault (List Byte)} :
    answerBytes s r = .next t ↔ ∃ bs, r = .ok bs ∧ t = s.respond (le16 (lenHalf bs.length) ++ bs) := by
  cases r <;> simp [answerBytes, eq_comm]

theorem acceptCommand_waiting {s : State} (cmd result : Byte) (h : s.cstate = .waiting) :
    acceptCommand cmd result s = .next (s.complete cmd result) := by
  simp [acceptCommand, h]

theorem acceptCommand_other {s : State} (cmd result : Byte) (h : s.cstate ≠ .waiting) :
    acceptCommand cmd result s = .next s := by
  simp [acceptCommand, h]

/-! ### The byte that may complete a frame -/

/-- The effect of a received byte once it is stored, in one function of what the bytes parse to
(42_correlator.md R226): the same for every `cmd_type` (30_encoding.md R93). -/
def afterParse (r : ParseResult) (s : State) : State :=
  match r with
  | .complete _ _ cmd result => s.complete cmd result
  | .badChecksum _ _ => s.finish .checksumMismatch
  | .badTerminator _ _ => (s.finish .frameMalformed).mark flagBadTerminator
  | .tooShort _ _ => (s.finish .frameMalformed).mark flagTooShort
  | .waitHeader => s
  | .waitBody _ _ => s

/-- A wire command in a waiting transaction ends it with its own code and its result byte. -/
theorem exec_wireInstr {bs : List Byte} {h len : Nat} {cmd result : Byte} {i : Instr} {s : State}
    (hi : wireInstr bs h len cmd result = some i) (hs : s.cstate = .waiting) :
    exec i s = .next (s.complete cmd result) := by
  simp only [wireInstr, wireRow, Option.map_eq_some_iff] at hi
  obtain ⟨mk, hmk, rfl⟩ := hi
  split at hmk <;> simp at hmk <;> subst hmk <;> exact acceptCommand_waiting _ _ hs

/-- Whatever instruction the byte runs or does not run, a waiting transaction goes on as the parse result says. -/
theorem runFetched_classify {bs : List Byte} {s : State} (hs : s.cstate = .waiting) :
    runFetched (classify bs s) = .next (afterParse (parseFrame bs) s) := by
  unfold classify
  cases hp : parseFrame bs with
  | complete h len cmd result =>
    dsimp only
    cases hi : wireInstr bs h len cmd result with
    | none => rfl
    | some i => exact exec_wireInstr hi hs
  | waitHeader => rfl
  | waitBody h len => rfl
  | badTerminator h len => rfl
  | badChecksum h len => rfl
  | tooShort h len => rfl

/-! ### Inversion -/

/-- Everything RX_BYTE can do (42_correlator.md R226). -/
theorem fetchByte_cases {b : Byte} {s t : State} (h : runFetched (fetchByte b s) = .next t) :
    (s.cstate ≠ .waiting ∧ t = s) ∨
    (s.cstate = .waiting ∧ s.rxLen = s.params.rxCap ∧ t = s.countByte.mark flagOverflow) ∨
    (s.cstate = .waiting ∧ s.rxLen ≠ s.params.rxCap ∧ s.rxLen.toNat < s.params.rxCap.toNat ∧
      ∃ bs, (s.countByte.setRx (s.rxBuf.write s.rxLen.toNat b) (s.rxLen + 1)).rxBytes = .ok bs ∧
        t = afterParse (parseFrame bs) (s.countByte.setRx (s.rxBuf.write s.rxLen.toNat b) (s.rxLen + 1))) := by
  unfold fetchByte at h
  split at h
  · next hw =>
    split at h
    · next hfull =>
      simp only [runFetched, Host.Outcome.next.injEq] at h
      exact .inr (.inl ⟨hw, hfull, h.symm⟩)
    · next hroom =>
      split at h
      · simp [runFetched] at h
      · next u hu =>
        simp only [State.storeByte] at hu
        split at hu
        · simp at hu
        · next m hm =>
          obtain ⟨hlt, rfl⟩ := bufWrite_ok.mp hm
          simp only [Except.ok.injEq] at hu
          subst hu
          split at h
          · simp [runFetched] at h
          · next bs hbs =>
            rw [runFetched_classify (by simpa using hw)] at h
            exact .inr (.inr ⟨hw, hroom, hlt, bs, hbs, (Host.Outcome.next.inj h).symm⟩)
  · next hw =>
    simp only [runFetched, Host.Outcome.next.injEq] at h
    exact .inl ⟨hw, h.symm⟩

/-- Everything TICK can do (42_correlator.md R227, R228). -/
theorem tick_cases {s t : State} (h : s.tick = .ok t) :
    (s.cstate ≠ .waiting ∧ t = s) ∨
    (s.cstate = .waiting ∧ s.xTimeout.toNat ≤ (satInc s.elapsed).toNat ∧
      t = s.countTick.finish (timeoutOutcome s.rxTotal)) ∨
    (s.cstate = .waiting ∧ (satInc s.elapsed).toNat < s.xTimeout.toNat ∧ s.countTick.desync = .ok true ∧
      t = (s.countTick.finish .timeout).mark flagDesync) ∨
    (s.cstate = .waiting ∧ (satInc s.elapsed).toNat < s.xTimeout.toNat ∧ s.countTick.desync = .ok false ∧
      t = s.countTick) := by
  unfold State.tick at h
  split at h
  · next hw =>
    unfold State.expire at h
    by_cases hle : s.xTimeout.toNat ≤ (satInc s.elapsed).toNat
    · rw [if_pos (by simpa using hle)] at h
      exact .inr (.inl ⟨hw, hle, (Except.ok.inj h).symm⟩)
    · rw [if_neg (by simpa using hle)] at h
      cases hd : s.countTick.desync with
      | error e => simp [hd] at h
      | ok fired =>
        cases fired with
        | true =>
          simp only [hd, Except.ok.injEq] at h
          exact .inr (.inr (.inl ⟨hw, by omega, rfl, h.symm⟩))
        | false =>
          simp only [hd, Except.ok.injEq] at h
          exact .inr (.inr (.inr ⟨hw, by omega, rfl, h.symm⟩))
  · next hw =>
    simp only [Except.ok.injEq] at h
    exact .inl ⟨hw, h.symm⟩

/-- Everything a configuration write can do (43_config.md R285, R287). -/
theorem configWrite_cases {idx : Byte} {v : Word} {s t : State} (h : configWrite idx v s = some t) :
    (idx = 0 ∧ (v = 1 ∨ v = 2 ∨ v = 3) ∧ t = s.setPpt (v.extractLsb' 0 8)) ∨
    (idx = 1 ∧ v ≠ 0 ∧ t = s.setCfgTimeout v) ∨ (idx = 2 ∧ t = s.setCfgGrace v) := by
  unfold configWrite at h
  split at h
  · split at h
    · next hv => exact .inl ⟨rfl, hv, (Option.some.inj h).symm⟩
    · cases h
  · split at h
    · cases h
    · next hv => exact .inr (.inl ⟨rfl, hv, (Option.some.inj h).symm⟩)
  · exact .inr (.inr ⟨rfl, (Option.some.inj h).symm⟩)
  · cases h

/-- Everything XACT_START can do (42_correlator.md R222). -/
theorem execXactStart_cases {w : Word} {s t : State} (h : execXactStart w s = .next t) :
    (s.cstate = .waiting ∧ t = s.fail .busy) ∨ (s.cstate ≠ .waiting ∧ s.frameLen = 0 ∧ t = s.fail .noFrame) ∨
    (s.cstate ≠ .waiting ∧ s.frameLen ≠ 0 ∧ ∃ f, s.frameBytes = .ok f ∧
      t = ((s.emit f).arm (timeoutOperand w s)).respond []) := by
  unfold execXactStart at h
  split at h
  · next hw => exact .inl ⟨hw, (Host.Outcome.next.inj h).symm⟩
  · next hw =>
    split at h
    · next h0 => exact .inr (.inl ⟨hw, h0, (Host.Outcome.next.inj h).symm⟩)
    · next h0 =>
      split at h
      · cases h
      · next f hf => exact .inr (.inr ⟨hw, h0, f, hf, (Host.Outcome.next.inj h).symm⟩)

/-- Everything an instruction can do, by what it writes. -/
theorem exec_cases {i : Instr} {s t : State} (h : exec i s = .next t) :
    (∃ r, t = { s with responses := s.responses ++ [r] }) ∨
    (writesCrc i = true ∧ ∃ c, t = (s.setCrc32 c).respond []) ∨
    (writesCrc i = true ∧ ∃ c, t = (s.setCrc16 c).respond []) ∨
    (∃ f, storedFrame s i = some f ∧ storeFrame f s = .next t) ∨
    (∃ w, i = .xactStart w ∧ execXactStart w s = .next t) ∨
    (∃ idx v u, i = .cfgWrite idx v ∧ configWrite idx v s = some u ∧ t = u.respond []) ∨
    (i.space = .wire ∧ ∃ cmd result, acceptCommand cmd result s = .next t) := by
  have read {r : List Byte} (h : Host.Outcome.next (s.respond r) = (.next t : Host.Outcome State Fault Refusal)) :
      ∃ r, t = { s with responses := s.responses ++ [r] } := ⟨_, (Host.Outcome.next.inj h).symm⟩
  have refuse {st : Status} (h : Host.Outcome.next (s.fail st) = (.next t : Host.Outcome State Fault Refusal)) :
      ∃ r, t = { s with responses := s.responses ++ [r] } := ⟨_, (Host.Outcome.next.inj h).symm⟩
  have bytes {r : Except Fault (List Byte)} (h : answerBytes s r = .next t) :
      ∃ r, t = { s with responses := s.responses ++ [r] } := by
    obtain ⟨bs, -, rfl⟩ := answerBytes_next.mp h; exact ⟨_, rfl⟩
  cases hs : storedFrame s i with
  | some f => exact .inr (.inr (.inr (.inl ⟨f, rfl, exec_storedFrame hs ▸ h⟩)))
  | none =>
    cases i with
    | crc32Init | crc32Update | crc32Feed =>
      exact .inr (.inl ⟨rfl, _, (Host.Outcome.next.inj h).symm⟩)
    | crc16Init | crc16Update | crc16Feed =>
      exact .inr (.inr (.inl ⟨rfl, _, (Host.Outcome.next.inj h).symm⟩))
    | crc32Read | crc16Read | xactStatus => exact .inl (read h)
    | encReset | encErase | encProgram | encReadHeader | encReadUuid | frameLoad => cases hs
    | frameRead | xactReadRx => exact .inl (bytes h)
    | parse d =>
      simp only [exec, execParse] at h
      split at h
      · exact .inl (refuse h)
      · exact .inl (read h)
    | xactStart w => exact .inr (.inr (.inr (.inr (.inl ⟨w, rfl, h⟩))))
    | xactReadFrame =>
      simp only [exec, execXactReadFrame] at h
      split at h
      · exact .inl (bytes h)
      · exact .inl (refuse h)
    | cfgRead idx =>
      simp only [exec, execCfgRead] at h
      split at h
      · exact .inl (read h)
      · exact .inl (refuse h)
    | cfgWrite idx v =>
      simp only [exec, execCfgWrite] at h
      split at h
      · next u hu => exact .inr (.inr (.inr (.inr (.inr (.inl ⟨idx, v, u, rfl, hu, (Host.Outcome.next.inj h).symm⟩)))))
      · exact .inl (refuse h)
    | wireReset | wireErase | wireProgram | wireReadHeader | wireReadUuid =>
      exact .inr (.inr (.inr (.inr (.inr (.inr ⟨rfl, _, _, h⟩)))))

/-- Everything a step can do. -/
theorem step_cases {s t : State} (h : step s = .next t) :
    (s.inputs = [] ∧ t = s) ∨
    (∃ q rest i, s.inputs = .request q :: rest ∧ decodeRequest q = .ok i ∧ exec i (s.withInputs rest) = .next t) ∨
    (∃ q rest st, s.inputs = .request q :: rest ∧ decodeRequest q = .error st ∧ t = (s.withInputs rest).fail st) ∨
    (∃ b rest, s.inputs = .rxByte b :: rest ∧ runFetched (fetchByte b (s.withInputs rest)) = .next t) ∨
    (∃ rest, s.inputs = .tick :: rest ∧ (s.withInputs rest).tick = .ok t) ∨
    (∃ rest, s.inputs = .reset :: rest ∧ t = (s.withInputs rest).resetInput) := by
  simp only [step, fetch] at h
  split at h
  · next hin => exact .inl ⟨hin, (Host.Outcome.next.inj h).symm⟩
  · next q rest hin =>
    unfold fetchRequest at h
    split at h
    · next i hd => exact .inr (.inl ⟨q, rest, i, hin, hd, h⟩)
    · next st hd => exact .inr (.inr (.inl ⟨q, rest, st, hin, hd, (Host.Outcome.next.inj h).symm⟩))
  · next b rest hin => exact .inr (.inr (.inr (.inl ⟨b, rest, hin, h⟩)))
  · next rest hin =>
    refine .inr (.inr (.inr (.inr (.inl ⟨rest, hin, ?_⟩))))
    cases ht : (s.withInputs rest).tick with
    | error e => simp [ht, fetchedOf, runFetched] at h
    | ok u => simp [ht, fetchedOf, runFetched] at h; rw [h]
  · next rest hin => exact .inr (.inr (.inr (.inr (.inr ⟨rest, hin, (Host.Outcome.next.inj h).symm⟩))))

end Sys2Proof.Machine
end

