-- ==== Sys2Proof/Laws/Parser.lean ====
section
/-! SUPPORT. The header search, byte sums as numbers, and where the parts of a built frame stand. -/

namespace Sys2Proof.Machine

open Sys2Proof

/-! ### Byte sums (41_frame_codec.md R161) -/

theorem byteSum_toNat (p : List Byte) : (byteSum p).toNat = (p.map fun b => b.toNat).sum % 256 := by
  induction p with
  | nil => rfl
  | cons b t ih => simp only [byteSum_cons, BitVec.toNat_add, ih, List.map_cons, List.sum_cons]; omega

theorem dcs_toNat (p : List Byte) : (dcs p).toNat = (256 - (p.map fun b => b.toNat).sum % 256) % 256 := by
  simp only [dcs, BitVec.toNat_sub, byteSum_toNat]; simp

/-! ### Header search (41_frame_codec.md R173) -/

theorem headerAt_zero {b : Byte} {t : List Byte} : HeaderAt (b :: t) 0 ↔ (b :: t).take 3 = frameHeader := by
  unfold HeaderAt slice
  simp only [List.drop_zero]
  refine ⟨fun h => h.2, fun h => ⟨?_, h⟩⟩
  have := congrArg List.length h
  simp [frameHeader] at this
  simp; omega

theorem headerAt_succ {b : Byte} {t : List Byte} {i : Nat} : HeaderAt (b :: t) (i + 1) ↔ HeaderAt t i := by
  unfold HeaderAt slice
  simp only [List.drop_succ_cons, List.length_cons]
  constructor <;> rintro ⟨h1, h2⟩ <;> exact ⟨by omega, h2⟩

theorem not_headerAt_nil (i : Nat) : ¬ HeaderAt [] i := by
  rintro ⟨h, -⟩; simp at h

/-- No header anywhere, or the first one. -/
theorem findHeader_none {s : List Byte} : findHeader s = none ↔ ∀ i, ¬ HeaderAt s i := by
  induction s with
  | nil => exact ⟨fun _ => not_headerAt_nil, fun _ => rfl⟩
  | cons b t ih =>
    unfold findHeader
    by_cases h0 : (b :: t).take 3 = frameHeader
    · rw [if_pos h0]
      exact ⟨fun h => by simp at h, fun h => absurd (headerAt_zero.mpr h0) (h 0)⟩
    · rw [if_neg h0, Option.map_eq_none_iff, ih]
      constructor
      · intro h i
        cases i with
        | zero => exact fun hi => h0 (headerAt_zero.mp hi)
        | succ i => exact fun hi => h i (headerAt_succ.mp hi)
      · exact fun h i hi => h (i + 1) (headerAt_succ.mpr hi)

theorem findHeader_some {s : List Byte} {h : Nat} : findHeader s = some h ↔ FirstHeader s h := by
  induction s generalizing h with
  | nil => exact ⟨fun hh => by simp [findHeader] at hh, fun hh => absurd hh.1 (not_headerAt_nil h)⟩
  | cons b t ih =>
    unfold findHeader
    by_cases h0 : (b :: t).take 3 = frameHeader
    · rw [if_pos h0]
      have hat := headerAt_zero.mpr h0
      constructor
      · rintro ⟨⟩; exact ⟨hat, by simp⟩
      · rintro ⟨-, hmin⟩
        cases h with
        | zero => rfl
        | succ h => exact absurd hat (hmin 0 (by omega))
    · rw [if_neg h0]
      have hat : ¬ HeaderAt (b :: t) 0 := fun hh => h0 (headerAt_zero.mp hh)
      constructor
      · intro hh
        obtain ⟨k, hk, rfl⟩ := Option.map_eq_some_iff.mp hh
        obtain ⟨h1, h2⟩ := ih.mp hk
        refine ⟨headerAt_succ.mpr h1, fun j hj => ?_⟩
        cases j with
        | zero => exact hat
        | succ j => exact fun hh => h2 j (by omega) (headerAt_succ.mp hh)
      · rintro ⟨h1, h2⟩
        cases h with
        | zero => exact absurd h1 hat
        | succ h =>
          have := ih.mpr ⟨headerAt_succ.mp h1, fun j hj hh => h2 (j + 1) (by omega) (headerAt_succ.mpr hh)⟩
          simp [this]

/-! ### The parts of a built frame (30_encoding.md R88, R90) -/

section

variable (cmd result reserved : Byte) (data : List Byte)

theorem wireFrame_eq : wireFrame cmd result reserved data =
    (frameHeader ++ le16 (lenHalf (16 + data.length))) ++
      (wirePayload cmd result reserved data ++ [dcs (wirePayload cmd result reserved data), 0x00]) := by
  simp [wireFrame, frameOf]

theorem findHeader_wireFrame : findHeader (wireFrame cmd result reserved data) = some 0 := by
  simp [wireFrame, frameOf, frameHeader, findHeader]

theorem rd16_wireFrame (h : data.length ≤ 65519) :
    (rd16 (wireFrame cmd result reserved data) 3).toNat = 16 + data.length := by
  have e := rd16_append_right frameHeader (le16 (lenHalf (16 + data.length)) ++
    (wirePayload cmd result reserved data ++ [dcs (wirePayload cmd result reserved data), 0x00])) 0
  rw [wireFrame_eq, List.append_assoc]
  rw [show frameHeader.length + 0 = 3 from rfl] at e
  rw [e, rd16_le16, lenHalf_toNat (by omega)]

theorem slice_wireFrame :
    slice (wireFrame cmd result reserved data) 5 (16 + data.length) = wirePayload cmd result reserved data := by
  have h5 : (frameHeader ++ le16 (lenHalf (16 + data.length))).length = 5 := rfl
  rw [wireFrame_eq, slice, ← h5, List.drop_left, ← wirePayload_length cmd result reserved data, List.take_left]

theorem dcs_wireFrame :
    byteAt (wireFrame cmd result reserved data) (5 + (16 + data.length)) = dcs (wirePayload cmd result reserved data) := by
  have h5 : (frameHeader ++ le16 (lenHalf (16 + data.length))).length = 5 := rfl
  have hp := wirePayload_length cmd result reserved data
  rw [wireFrame_eq, ← h5, byteAt_append_right, ← Nat.add_zero (16 + data.length), ← hp, byteAt_append_right]
  rfl

theorem terminator_wireFrame : byteAt (wireFrame cmd result reserved data) (6 + (16 + data.length)) = 0x00 := by
  have h5 : (frameHeader ++ le16 (lenHalf (16 + data.length))).length = 5 := rfl
  have hp := wirePayload_length cmd result reserved data
  rw [wireFrame_eq, show 6 + (16 + data.length) = 5 + (16 + data.length + 1) by omega, ← h5, byteAt_append_right, ← hp,
    byteAt_append_right]
  rfl

end

end Sys2Proof.Machine
end

