-- ==== Sys2Proof/Laws/PerInstr.lean ====
section
/-! SUPPORT. The per-instruction family: how long the encoding of each instruction is (30_encoding.md R82 for host
requests, R88 and R90 for wire frames). -/

namespace Sys2Proof.Laws.EncodedLength

open Sys2Proof

/-- The length R82 gives the instruction's format, with its own count; `L + 7` with `L = 16 + len(data)` for a frame. -/
def expected : Instr → Nat
  | .crc32Init => 1
  | .crc32Update _ => 2
  | .crc32Feed d => 3 + d.length
  | .crc32Read => 1
  | .crc16Init => 1
  | .crc16Update _ => 2
  | .crc16Feed d => 3 + d.length
  | .crc16Read => 1
  | .encReset => 1
  | .encErase _ _ => 6
  | .encProgram _ d => 7 + d.length
  | .encReadHeader _ => 5
  | .encReadUuid => 1
  | .frameLoad d => 3 + d.length
  | .frameRead => 1
  | .parse d => 3 + d.length
  | .xactStart _ => 5
  | .xactStatus => 1
  | .xactReadRx => 1
  | .xactReadFrame => 1
  | .cfgRead _ => 2
  | .cfgWrite _ _ => 6
  | .wireReset _ _ data => 7 + (16 + data.length)
  | .wireErase _ _ data => 7 + (16 + data.length)
  | .wireProgram _ _ data => 7 + (16 + data.length)
  | .wireReadHeader _ _ data => 7 + (16 + data.length)
  | .wireReadUuid _ _ data => 7 + (16 + data.length)

/-- The encoding of an instruction has the length of its format. -/
def Statement (i : Instr) : Prop := (encode i).length = expected i

theorem crc32Init : Statement (.crc32Init) := by
  simp [Statement, expected, encode]

theorem crc32Update (b : Byte) : Statement (.crc32Update b) := by
  simp [Statement, expected, encode]

theorem crc32Feed (d : List Byte) : Statement (.crc32Feed d) := by
  simp [Statement, expected, encode]; try omega

theorem crc32Read : Statement (.crc32Read) := by
  simp [Statement, expected, encode]

theorem crc16Init : Statement (.crc16Init) := by
  simp [Statement, expected, encode]

theorem crc16Update (b : Byte) : Statement (.crc16Update b) := by
  simp [Statement, expected, encode]

theorem crc16Feed (d : List Byte) : Statement (.crc16Feed d) := by
  simp [Statement, expected, encode]; try omega

theorem crc16Read : Statement (.crc16Read) := by
  simp [Statement, expected, encode]

theorem encReset : Statement (.encReset) := by
  simp [Statement, expected, encode]

theorem encErase (a : Word) (c : Byte) : Statement (.encErase a c) := by
  simp [Statement, expected, encode]

theorem encProgram (a : Word) (d : List Byte) : Statement (.encProgram a d) := by
  simp [Statement, expected, encode]; try omega

theorem encReadHeader (a : Word) : Statement (.encReadHeader a) := by
  simp [Statement, expected, encode]

theorem encReadUuid : Statement (.encReadUuid) := by
  simp [Statement, expected, encode]

theorem frameLoad (d : List Byte) : Statement (.frameLoad d) := by
  simp [Statement, expected, encode]; try omega

theorem frameRead : Statement (.frameRead) := by
  simp [Statement, expected, encode]

theorem parse (d : List Byte) : Statement (.parse d) := by
  simp [Statement, expected, encode]; try omega

theorem xactStart (t : Word) : Statement (.xactStart t) := by
  simp [Statement, expected, encode]

theorem xactStatus : Statement (.xactStatus) := by
  simp [Statement, expected, encode]

theorem xactReadRx : Statement (.xactReadRx) := by
  simp [Statement, expected, encode]

theorem xactReadFrame : Statement (.xactReadFrame) := by
  simp [Statement, expected, encode]

theorem cfgRead (idx : Byte) : Statement (.cfgRead idx) := by
  simp [Statement, expected, encode]

theorem cfgWrite (idx : Byte) (v : Word) : Statement (.cfgWrite idx v) := by
  simp [Statement, expected, encode]

theorem wireReset (result reserved : Byte) (data : List Byte) : Statement (.wireReset result reserved data) := by
  simp [Statement, expected, encode]; try omega

theorem wireErase (result reserved : Byte) (data : List Byte) : Statement (.wireErase result reserved data) := by
  simp [Statement, expected, encode]; try omega

theorem wireProgram (result reserved : Byte) (data : List Byte) : Statement (.wireProgram result reserved data) := by
  simp [Statement, expected, encode]; try omega

theorem wireReadHeader (result reserved : Byte) (data : List Byte) : Statement (.wireReadHeader result reserved data) := by
  simp [Statement, expected, encode]; try omega

theorem wireReadUuid (result reserved : Byte) (data : List Byte) : Statement (.wireReadUuid result reserved data) := by
  simp [Statement, expected, encode]; try omega

end Sys2Proof.Laws.EncodedLength
end

