-- ==== Sys2Proof/Tests/Slice0.lean ====
section
/-! SUPPORT. Tests of one step or one decoding each, the expected results taken from 95_test_vectors.md (the vector is
named) or from the rule cited, and a witness for every statement that has hypotheses. -/

namespace Sys2Proof.Tests

open Sys2Proof Sys2Proof.Machine

/-! ### Small states -/

/-- The 23-byte RESET frame of V-ENC-1, which is also the response A_RESET of the programs. -/
def frameR : List Byte :=
  [0x00, 0x00, 0xFF, 0x10, 0x00, 0x05, 0xFF, 0xFF, 0xFF, 0xFF, 0xFF, 0x06, 0xFF, 0xFF, 0xFF, 0xFF, 0xFF, 0x01, 0xCA, 0x00,
    0x00, 0x34, 0x00]

/-- The 23-byte ERASE response with result 1, E_ERASE1. -/
def frameE : List Byte :=
  [0x00, 0x00, 0xFF, 0x10, 0x00, 0x05, 0xFF, 0xFF, 0xFF, 0xFF, 0xFF, 0x06, 0xFF, 0xFF, 0xFF, 0xFF, 0xFF, 0x01, 0xCB, 0x01,
    0x00, 0x32, 0x00]

/-- A string as buffer contents. -/
def cells (i : Nat) : List Byte → Memory
  | [] => []
  | b :: t => (i, b) :: cells (i + 1) t

/-- The reset state with a frame loaded. -/
def loaded (f : List Byte) : State := { State.reset with frameBuf := cells 0 f, frameLen := lenHalf f.length }

/-- A transaction with the default timeout and grace, after some received bytes. -/
def waiting (bs : List Byte) : State :=
  { loaded frameR with
    cstate := .waiting, xTimeout := 5000, xGrace := 1000, rxBuf := cells 0 bs, rxLen := lenHalf bs.length,
    rxTotal := BitVec.ofNat 32 bs.length }

/-- The state after the RESET exchange of V-P2. -/
def finished : State := { waiting frameR with cstate := .done, outcome := .success, respCmd := 0xCA, respResult := 0 }

/-- A small instance whose receive buffer is full: 23 stored bytes that are no header. -/
def full : State :=
  { waiting (List.replicate 23 0x55) with params := { Params.default with rxCap := 23, txCap := 796, pptReset := 3 } }

def given (s : State) (l : List Input) : State := { s with inputs := l }

/-- The last response, where a next state was reached. -/
def answer (o : Host.Outcome State Fault Refusal) : Option (List Byte) :=
  match o with
  | .next t => t.responses.getLast?
  | .fault _ => none
  | .refused _ => none

/-- A field of the next state. -/
def after {α : Type} (o : Host.Outcome State Fault Refusal) (f : State → α) : Option α :=
  match o with
  | .next t => some (f t)
  | .fault _ => none
  | .refused _ => none

/-! ### Well-formedness: an ill-formed term for each check -/

/-- A data string of 65536 bytes does not fit the u16 count (R82). -/
theorem test_count_of_65536_refused :
    (Instr.crc32Feed (List.replicate 65536 0)).wellFormed = false ∧
    (Instr.crc16Feed (List.replicate 65536 0)).wellFormed = false ∧
    (Instr.encProgram 0 (List.replicate 65536 0)).wellFormed = false ∧
    (Instr.frameLoad (List.replicate 65536 0)).wellFormed = false ∧
    (Instr.parse (List.replicate 65536 0)).wellFormed = false := by
  simp only [Instr.wellFormed, countFits, List.length_replicate]; decide

/-- 65520 bytes of command data make a payload of 65536 bytes (R88). -/
theorem test_payload_of_65536_refused :
    (Instr.wireReset 0 0 (List.replicate 65520 0)).wellFormed = false ∧
    (Instr.wireErase 0 0 (List.replicate 65520 0)).wellFormed = false ∧
    (Instr.wireProgram 0 0 (List.replicate 65520 0)).wellFormed = false ∧
    (Instr.wireReadHeader 0 0 (List.replicate 65520 0)).wellFormed = false ∧
    (Instr.wireReadUuid 0 0 (List.replicate 65520 0)).wellFormed = false := by
  simp only [Instr.wellFormed, payloadFits, List.length_replicate]; decide

/-- The largest counts fit. -/
theorem test_largest_counts_accepted :
    (Instr.crc32Feed (List.replicate 65535 0)).wellFormed = true ∧
    (Instr.wireReset 0 0 (List.replicate 65519 0)).wellFormed = true := by
  simp only [Instr.wellFormed, countFits, payloadFits, List.length_replicate]; decide

/-! ### Decoding: bytes written out from 30_encoding.md R82, R85, R90, R91, R95 -/

theorem test_decode_crc32 :
    decodeRequest [0x01] = .ok .crc32Init ∧ decodeRequest [0x02, 0x31] = .ok (.crc32Update 0x31) ∧
    decodeRequest [0x03, 0x04, 0x00, 0x31, 0x32, 0x33, 0x34] = .ok (.crc32Feed [0x31, 0x32, 0x33, 0x34]) ∧
    decodeRequest [0x04] = .ok .crc32Read := by decide

theorem test_decode_crc16 :
    decodeRequest [0x05] = .ok .crc16Init ∧ decodeRequest [0x06, 0x31] = .ok (.crc16Update 0x31) ∧
    decodeRequest [0x07, 0x02, 0x00, 0x41, 0x42] = .ok (.crc16Feed [0x41, 0x42]) ∧
    decodeRequest [0x08] = .ok .crc16Read := by decide

theorem test_decode_encoder :
    decodeRequest [0x10] = .ok .encReset ∧
    decodeRequest [0x11, 0x01, 0x02, 0x03, 0x04, 0x10] = .ok (.encErase 0x04030201 0x10) ∧
    decodeRequest [0x12, 0xFF, 0xFE, 0xFD, 0xFC, 0x01, 0x00, 0xAB] = .ok (.encProgram 0xFCFDFEFF [0xAB]) ∧
    decodeRequest [0x13, 0x00, 0x00, 0x28, 0x00] = .ok (.encReadHeader 0x00280000) ∧
    decodeRequest [0x14] = .ok .encReadUuid := by decide

theorem test_decode_frame_and_parse :
    decodeRequest [0x15, 0x02, 0x00, 0xAA, 0xBB] = .ok (.frameLoad [0xAA, 0xBB]) ∧
    decodeRequest [0x16] = .ok .frameRead ∧ decodeRequest [0x17, 0x01, 0x00, 0x77] = .ok (.parse [0x77]) := by decide

theorem test_decode_correlator_and_configuration :
    decodeRequest [0x20, 0x30, 0x75, 0x00, 0x00] = .ok (.xactStart 30000) ∧ decodeRequest [0x21] = .ok .xactStatus ∧
    decodeRequest [0x22] = .ok .xactReadRx ∧ decodeRequest [0x23] = .ok .xactReadFrame ∧
    decodeRequest [0x30, 0x04] = .ok (.cfgRead 4) ∧
    decodeRequest [0x31, 0x00, 0x03, 0x01, 0x00, 0x00] = .ok (.cfgWrite 0 0x00000103) := by decide

/-- A response frame of each command, `result` and `reserved` other than 0, two data bytes. -/
theorem test_decode_wire :
    (decodeFrame [0x00, 0x00, 0xFF, 0x12, 0x00, 0x05, 0xFF, 0xFF, 0xFF, 0xFF, 0xFF, 0x06, 0xFF, 0xFF, 0xFF, 0xFF, 0xFF, 0x01,
      0xCA, 0x07, 0x08, 0x10, 0x20, 0xF5, 0x00] = .ok (.wireReset 0x07 0x08 [0x10, 0x20])) ∧
    (decodeFrame [0x00, 0x00, 0xFF, 0x12, 0x00, 0x05, 0xFF, 0xFF, 0xFF, 0xFF, 0xFF, 0x06, 0xFF, 0xFF, 0xFF, 0xFF, 0xFF, 0x01,
      0xCB, 0x07, 0x08, 0x10, 0x20, 0xF4, 0x00] = .ok (.wireErase 0x07 0x08 [0x10, 0x20])) ∧
    (decodeFrame [0x00, 0x00, 0xFF, 0x12, 0x00, 0x05, 0xFF, 0xFF, 0xFF, 0xFF, 0xFF, 0x06, 0xFF, 0xFF, 0xFF, 0xFF, 0xFF, 0x01,
      0xCC, 0x07, 0x08, 0x10, 0x20, 0xF3, 0x00] = .ok (.wireProgram 0x07 0x08 [0x10, 0x20])) ∧
    (decodeFrame [0x00, 0x00, 0xFF, 0x12, 0x00, 0x05, 0xFF, 0xFF, 0xFF, 0xFF, 0xFF, 0x06, 0xFF, 0xFF, 0xFF, 0xFF, 0xFF, 0x01,
      0xCD, 0x07, 0x08, 0x10, 0x20, 0xF2, 0x00] = .ok (.wireReadHeader 0x07 0x08 [0x10, 0x20])) ∧
    (decodeFrame [0x00, 0x00, 0xFF, 0x12, 0x00, 0x05, 0xFF, 0xFF, 0xFF, 0xFF, 0xFF, 0x06, 0xFF, 0xFF, 0xFF, 0xFF, 0xFF, 0x01,
      0xCE, 0x07, 0x08, 0x10, 0x20, 0xF1, 0x00] = .ok (.wireReadUuid 0x07 0x08 [0x10, 0x20])) := by decide

/-- A valid frame whose `cmd_type` is none of the five is no wire command (R93). -/
theorem test_unknown_command_is_no_instruction :
    decodeFrame [0x00, 0x00, 0xFF, 0x10, 0x00, 0x05, 0xFF, 0xFF, 0xFF, 0xFF, 0xFF, 0x06, 0xFF, 0xFF, 0xFF, 0xFF, 0xFF, 0x01,
      0x55, 0x00, 0x00, 0xA9, 0x00] = .error (.unknownCommand 0x55) := by decide

/-- V-REF-5 to V-REF-12 and V-ENC-R5 to V-ENC-R8. -/
theorem test_refused_requests :
    decodeRequest [0x09, 0x01, 0x02, 0x03] = .error .illegalOp ∧ decodeRequest [0x00] = .error .illegalOp ∧
    decodeRequest [0xFF] = .error .illegalOp ∧ decodeRequest [] = .error .badLength ∧
    decodeRequest [0x03, 0x05, 0x00, 0x31] = .error .badLength ∧ decodeRequest [0x03, 0x00] = .error .badLength ∧
    decodeRequest [0x21, 0x00] = .error .badLength ∧ decodeRequest [0x10, 0x00] = .error .badLength ∧
    decodeRequest [0x12, 0x00, 0x00, 0x00, 0x00, 0x02, 0x00, 0x01] = .error .badLength ∧
    decodeRequest [0x12, 0x00, 0x00, 0x00, 0x00, 0x00, 0x00, 0x01] = .error .badLength := by decide

/-- Table words: a host row, a host row with its operands left at zero, and a wire row with its request's data. -/
theorem test_table_words :
    decodeTableWord 8 0x01 = some .crc32Init ∧ decodeTableWord 8 0x12 = some (.encProgram 0 []) ∧
    decodeTableWord 16 0x3102 = some (.crc32Update 0x31) ∧ decodeTableWord 8 0xCA = some (.wireReset 0 0 []) ∧
    decodeTableWord 8 0xCB = some (.wireErase 0 0 [0, 0, 0, 0, 0]) ∧ decodeTableWord 8 0x09 = none := by decide +kernel

/-- What `withFetchWord` places is what the next step runs, from reset: a host operation and a wire command. -/
theorem test_withFetchWord_runs :
    after (step (State.reset.withFetchWord 8 0x05)) (fun t => (t.inputs, t.responses)) = some ([], [[0x00]]) ∧
    after (step (State.reset.withFetchWord 8 0xCD)) (fun t => (t.cstate, t.outcome, t.respCmd, t.inputs)) =
      some (.done, .success, 0xCD, []) := by decide

/-! ### One instruction each, expected results of 95_test_vectors.md -/

/-- V-CRC32-12: the first and the second column. -/
theorem test_crc32_update :
    after (exec (.crc32Update 0x31) State.reset) State.crc32 = some 0x7C231048 ∧
    after (exec (.crc32Update 0x32) { State.reset with crc32 := 0x7C231048 }) State.crc32 = some 0xB0ACBB32 := by decide

/-- V-CRC32-12: from the fifth column on, the rest of "123456789". -/
theorem test_crc32_feed :
    after (exec (.crc32Feed [0x36, 0x37, 0x38, 0x39]) { State.reset with crc32 := 0x340AC5E3 }) State.crc32 =
      some 0x340BC6D9 := by decide +kernel

/-- V-CRC32-2, the last response; R126. -/
theorem test_crc32_read_and_init :
    answer (exec .crc32Read { State.reset with crc32 := 0x340BC6D9 }) = some [0x00, 0x26, 0x39, 0xF4, 0xCB] ∧
    after (exec .crc32Init { State.reset with crc32 := 0x340BC6D9 }) State.crc32 = some 0xFFFFFFFF := by decide

/-- V-CRC16-12: the first and the second column. -/
theorem test_crc16_update :
    after (exec (.crc16Update 0x31) State.reset) State.crc16 = some 0x2672 ∧
    after (exec (.crc16Update 0x32) { State.reset with crc16 := 0x2672 }) State.crc16 = some 0x20B5 := by decide

/-- V-CRC16-2. -/
theorem test_crc16_feed :
    after (exec (.crc16Feed [0x31, 0x32, 0x33, 0x34, 0x35, 0x36, 0x37, 0x38, 0x39]) State.reset) State.crc16 =
      some 0x31C3 := by decide

/-- V-CRC16-2, the last response; R130. -/
theorem test_crc16_read_and_init :
    answer (exec .crc16Read { State.reset with crc16 := 0x31C3 }) = some [0x00, 0xC3, 0x31] ∧
    after (exec .crc16Init { State.reset with crc16 := 0x31C3 }) State.crc16 = some 0x0000 := by decide

/-- Entries of V-T16 in each quarter of the table, the last one included. -/
theorem test_crc16_table :
    crc16Table 0x00 = 0x0000 ∧ crc16Table 0x01 = 0x1021 ∧ crc16Table 0x37 = 0x46B4 ∧ crc16Table 0x41 = 0x58E5 ∧
    crc16Table 0x80 = 0x9188 ∧ crc16Table 0xC0 = 0xD94C ∧ crc16Table 0xFF = 0x1EF0 := by decide

/-- V-ENC-1, V-ENC-5: the frames, byte for byte. -/
theorem test_enc_reset_and_uuid :
    after (exec .encReset State.reset) State.frameBytes = some (.ok frameR) ∧
    after (exec .encReadUuid State.reset) State.frameBytes = some (.ok
      [0x00, 0x00, 0xFF, 0x10, 0x00, 0x05, 0xFF, 0xFF, 0xFF, 0xFF, 0xFF, 0x06, 0xFF, 0xFF, 0xFF, 0xFF, 0xFF, 0x01, 0xCE,
        0x00, 0x00, 0x30, 0x00]) := by decide

/-- V-ENC-3. -/
theorem test_enc_erase :
    answer (exec (.encErase 0x00280000 16) State.reset) = some [0x00, 0x1C, 0x00] ∧
    after (exec (.encErase 0x00280000 16) State.reset) State.frameBytes = some (.ok
      [0x00, 0x00, 0xFF, 0x15, 0x00, 0x05, 0xFF, 0xFF, 0xFF, 0xFF, 0xFF, 0x06, 0xFF, 0xFF, 0xFF, 0xFF, 0xFF, 0x01, 0xCB,
        0x00, 0x00, 0x00, 0x00, 0x28, 0x00, 0x10, 0xFB, 0x00]) := by decide

/-- V-ENC-13. -/
theorem test_enc_program :
    after (exec (.encProgram 0xFFFFFFFF [0x00]) State.reset) State.frameBytes = some (.ok
      [0x00, 0x00, 0xFF, 0x16, 0x00, 0x05, 0xFF, 0xFF, 0xFF, 0xFF, 0xFF, 0x06, 0xFF, 0xFF, 0xFF, 0xFF, 0xFF, 0x01, 0xCC,
        0x00, 0x00, 0xFF, 0xFF, 0xFF, 0xFF, 0x01, 0x00, 0x35, 0x00]) := by decide

/-- The page counts of V-ENC-7 to V-ENC-13. -/
theorem test_page_counts :
    pageCount 768 3 = 3 ∧ pageCount 0 1 = 0 ∧ pageCount 256 1 = 1 ∧ pageCount 300 3 = 2 ∧ pageCount 300 1 = 1 ∧
    pageCount 512 2 = 2 ∧ pageCount 1 1 = 1 := by decide

/-- V-ENC-4. -/
theorem test_enc_read_header :
    after (exec (.encReadHeader 0x00280000) State.reset) State.frameBytes = some (.ok
      [0x00, 0x00, 0xFF, 0x14, 0x00, 0x05, 0xFF, 0xFF, 0xFF, 0xFF, 0xFF, 0x06, 0xFF, 0xFF, 0xFF, 0xFF, 0xFF, 0x01, 0xCD,
        0x00, 0x00, 0x00, 0x00, 0x28, 0x00, 0x09, 0x00]) := by decide

/-- R170 and R163: a frame of the buffer's size is stored, one byte more is refused (a small TX_CAP). -/
theorem test_frame_load :
    (let s := { State.reset with params := { Params.default with rxCap := 23, txCap := 2, pptReset := 1 } }
     answer (exec (.frameLoad [0xAA, 0xBB]) s) = some [0x00, 0x02, 0x00] ∧
     answer (exec (.frameLoad [0xAA, 0xBB, 0xCC]) s) = some [0x03]) := by decide

/-- R171. -/
theorem test_frame_read :
    answer (exec .frameRead (loaded [0xAA, 0xBB])) = some [0x00, 0x02, 0x00, 0xAA, 0xBB] ∧
    answer (exec .frameRead State.reset) = some [0x00, 0x00, 0x00] := by decide

/-- V-PARSE-4, -5, -18, -19. -/
theorem test_parse_waiting :
    answer (exec (.parse [0x00, 0x00, 0xFF, 0x10]) State.reset) = some [0x00, 0x00, 0, 0, 0, 0, 0, 0] ∧
    answer (exec (.parse (frameR.take 5)) State.reset) = some [0x00, 0x01, 0, 0, 0x10, 0, 0, 0] ∧
    answer (exec (.parse [0x00, 0x00, 0xFF, 0xFF, 0xFF]) State.reset) = some [0x00, 0x01, 0, 0, 0xFF, 0xFF, 0, 0] ∧
    answer (exec (.parse [0xFF, 0x00, 0x00, 0xFF, 0x10, 0x00]) State.reset) =
      some [0x00, 0x01, 0x01, 0, 0x10, 0, 0, 0] := by decide

/-- V-PARSE-8, -9, -13, -12, -14, -16, -17. -/
theorem test_parse_settled :
    answer (exec (.parse (0x77 :: frameR)) State.reset) = some [0x00, 0x02, 0x01, 0, 0x10, 0, 0xCA, 0] ∧
    answer (exec (.parse (0x00 :: frameR)) State.reset) = some [0x00, 0x02, 0x01, 0, 0x10, 0, 0xCA, 0] ∧
    answer (exec (.parse (frameR.take 21 ++ [0x35, 0x01])) State.reset) = some [0x00, 0x03, 0, 0, 0x10, 0, 0, 0] ∧
    answer (exec (.parse (frameR.take 21 ++ [0x35, 0x00])) State.reset) = some [0x00, 0x04, 0, 0, 0x10, 0, 0, 0] ∧
    answer (exec (.parse [0x00, 0x00, 0xFF, 0x01, 0x00, 0x05, 0xFB, 0x00]) State.reset) =
      some [0x00, 0x05, 0, 0, 0x01, 0, 0, 0] ∧
    answer (exec (.parse [0x00, 0x00, 0xFF, 0x00, 0x00, 0x00, 0x01]) State.reset) = some [0x00, 0x03, 0, 0, 0, 0, 0, 0] ∧
    answer (exec (.parse frameE) State.reset) = some [0x00, 0x02, 0, 0, 0x10, 0, 0xCB, 0x01] := by decide

/-- V-REF-1, V-REF-2, V-REF-4. -/
theorem test_xact_start_refused :
    answer (exec (.xactStart 0) State.reset) = some [0x05] ∧ answer (exec (.xactStart 0) (waiting [])) = some [0x04] ∧
    answer (exec (.xactStart 0) { waiting [] with frameLen := 0 }) = some [0x04] := by decide

/-- The example of R222, and V-XACT-21: from DONE the same frame goes out again. -/
theorem test_xact_start_sends :
    after (exec (.xactStart 0) (loaded frameR)) (fun t => (t.txTrace, t.cstate, t.xTimeout, t.xGrace)) =
      some (frameR, .waiting, 5000, 1000) ∧
    after (exec (.xactStart 7) { finished with txTrace := frameR }) (fun t => (t.txTrace, t.rxLen, t.outcome, t.xTimeout)) =
      some (frameR ++ frameR, 0, .none, 7) := by decide

/-- V-P2 step 5 and the answer after reset. -/
theorem test_xact_status :
    answer (exec .xactStatus finished) =
      some [0x00, 0x02, 0x01, 0x00, 0xCA, 0x00, 0x17, 0x00, 0x17, 0x00, 0x00, 0x00, 0x00, 0x00, 0x00, 0x00] ∧
    answer (exec .xactStatus State.reset) = some [0, 0, 0, 0, 0, 0, 0, 0, 0, 0, 0, 0, 0, 0, 0, 0] := by decide

/-- V-P4 step 8. -/
theorem test_xact_read_rx :
    answer (exec .xactReadRx (waiting [0x55, 0xAA, 0x01])) = some [0x00, 0x03, 0x00, 0x55, 0xAA, 0x01] := by decide

/-- V-REF-10, and V-XACT-22: the frame without the byte before it. -/
theorem test_xact_read_frame :
    answer (exec .xactReadFrame State.reset) = some [0x05] ∧
    answer (exec .xactReadFrame { waiting (0x77 :: frameR) with cstate := .done, outcome := .success }) =
      some (0x00 :: 0x17 :: 0x00 :: frameR) := by decide

/-- V-CFG-2 to V-CFG-6. -/
theorem test_cfg_read :
    answer (exec (.cfgRead 1) State.reset) = some [0x00, 0x88, 0x13, 0x00, 0x00] ∧
    answer (exec (.cfgRead 2) State.reset) = some [0x00, 0xE8, 0x03, 0x00, 0x00] ∧
    answer (exec (.cfgRead 3) State.reset) = some [0x00, 0x00, 0x04, 0x00, 0x00] ∧
    answer (exec (.cfgRead 4) State.reset) = some [0x00, 0x00, 0x04, 0x00, 0x00] ∧
    answer (exec (.cfgRead 5) State.reset) = some [0x03] := by decide

/-- V-CFG-7 to V-CFG-16. -/
theorem test_cfg_write :
    after (exec (.cfgWrite 0 3) State.reset) State.ppt = some 3 ∧ answer (exec (.cfgWrite 0 4) State.reset) = some [0x03] ∧
    answer (exec (.cfgWrite 0 0) State.reset) = some [0x03] ∧ answer (exec (.cfgWrite 0 0x103) State.reset) = some [0x03] ∧
    answer (exec (.cfgWrite 1 0) State.reset) = some [0x03] ∧
    after (exec (.cfgWrite 1 0xFFFFFFFF) State.reset) State.cfgTimeout = some 0xFFFFFFFF ∧
    after (exec (.cfgWrite 2 0) State.reset) State.cfgGrace = some 0 ∧
    answer (exec (.cfgWrite 3 5) State.reset) = some [0x03] ∧ answer (exec (.cfgWrite 4 5) State.reset) = some [0x03] ∧
    answer (exec (.cfgWrite 200 1) State.reset) = some [0x03] := by decide

/-- The five commands with result 0, and with result 1 (R226). -/
theorem test_wire_commands :
    after (exec (.wireReset 0 0 []) (waiting [])) (fun t => (t.cstate, t.outcome, t.respCmd)) =
      some (.done, .success, 0xCA) ∧
    after (exec (.wireErase 1 0 []) (waiting [])) (fun t => (t.outcome, t.respCmd, t.respResult)) =
      some (.commandError, 0xCB, 1) ∧
    after (exec (.wireProgram 0 0 []) (waiting [])) State.respCmd = some 0xCC ∧
    after (exec (.wireReadHeader 0 0 []) (waiting [])) State.respCmd = some 0xCD ∧
    after (exec (.wireReadUuid 0 0 []) State.reset) (fun t => (t.cstate, t.respCmd)) = some (.idle, 0) := by decide

/-! ### Events -/

/-- PPT_RESET, TIMEOUT_RESET and GRACE_RESET of an instance (R6, D29) are what reset leaves. -/
theorem test_reset_of_an_instance :
    after (step (given { State.reset with params := { Params.default with pptReset := 3, timeoutReset := 9, graceReset := 0 } }
      [.reset])) (fun t => (t.ppt, t.cfgTimeout, t.cfgGrace)) = some (3, 9, 0) := by decide

/-- The example of R226, its last byte; a byte before; V-XACT-7, a byte in DONE. -/
theorem test_rx_byte_completes :
    after (step (given (waiting (frameR.take 22)) [.rxByte 0x00])) (fun t => (t.cstate, t.outcome, t.respCmd, t.rxLen)) =
      some (.done, .success, 0xCA, 23) ∧
    after (step (given (waiting (frameR.take 21)) [.rxByte 0x34])) (fun t => (t.cstate, t.rxLen)) = some (.waiting, 22) ∧
    after (step (given finished [.rxByte 0x00])) (fun t => (t.rxLen, t.rxTotal)) = some (23, 23) := by decide

/-- V-XACT-15, -16, -17, and a full buffer (R226). -/
theorem test_rx_byte_fails :
    after (step (given (waiting (frameR.take 21 ++ [0x35])) [.rxByte 0x00])) (fun t => (t.outcome, t.flags)) =
      some (.checksumMismatch, 0x00) ∧
    after (step (given (waiting (frameR.take 22)) [.rxByte 0x01])) (fun t => (t.outcome, t.flags)) =
      some (.frameMalformed, 0x04) ∧
    after (step (given (waiting [0x00, 0x00, 0xFF, 0x01, 0x00, 0x05, 0xFB]) [.rxByte 0x00])) (fun t => (t.outcome, t.flags)) =
      some (.frameMalformed, 0x08) ∧
    after (step (given full [.rxByte 0x55])) (fun t => (t.cstate, t.flags, t.rxLen, t.rxTotal)) =
      some (.waiting, 0x02, 23, 24) := by decide

/-- V-XACT-8 and V-XACT-9 at their last tick, V-XACT-13, V-XACT-14, and the example of R227. -/
theorem test_tick :
    (let s := { waiting [0x55, 0xAA, 0x01] with elapsed := 999, silence := 999 }
     after (step (given { s with xTimeout := 1000 } [.tick])) (fun t => (t.cstate, t.outcome, t.flags)) =
       some (.done, .timeout, 0x00) ∧
     after (step (given s [.tick])) (fun t => (t.cstate, t.outcome, t.flags)) = some (.done, .timeout, 0x01) ∧
     after (step (given { s with silence := 998 } [.tick])) (fun t => (t.cstate, t.elapsed)) = some (.waiting, 1000)) ∧
    after (step (given { waiting [0x00, 0x00, 0xFF, 0x10] with elapsed := 999, silence := 999 } [.tick])) State.cstate =
      some .waiting ∧
    after (step (given { waiting [0x77, 0x00, 0x00, 0xFF, 0x10] with elapsed := 999, silence := 999 } [.tick]))
      State.outcome = some .timeout ∧
    after (step (given { waiting [] with elapsed := 2, xTimeout := 3 } [.tick])) (fun t => (t.outcome, t.elapsed)) =
      some (.noResponse, 3) := by decide

/-- V-XACT-19, and R340 with what reset leaves. -/
theorem test_reset :
    after (step (given { waiting [0x00, 0x00] with txTrace := frameR, crc32 := 5, crc16 := 5 } [.reset]))
      (fun t => ((t.cstate, t.rxLen, t.frameLen), (t.crc32, t.crc16, t.txTrace))) =
      some ((.idle, 0, 0), (0xFFFFFFFF, 0x0000, frameR)) := by decide

/-! ### Witnesses: for each statement with hypotheses, states and operands that meet them, clause by clause -/

/-- While no outcome stands, bytes that are no whole frame agree with the correlator. -/
theorem agrees_waiting {s : State} {bs : List Byte} (ho : s.outcome = .none)
    (hp : parseFrame bs = .waitHeader ∨ ∃ h len, parseFrame bs = .waitBody h len) : ReceivedAgrees s bs :=
  ⟨fun _ => hp, by simp [ho, XactOutcome.hasFrame], by simp [ho], by simp [ho]⟩

/-- The invariant holds in a waiting transaction one byte before its end. -/
theorem witness_inv_waiting : (waiting (frameR.take 22)).Inv where
  params := by decide
  ppt := by decide
  cfgTimeout := by decide
  frame := ⟨by decide, by decide, by decide, by decide⟩
  rx := ⟨by decide, by decide, by decide, by decide⟩
  flags := by decide
  outcome := by decide
  idle := by decide
  waiting := by decide
  counted := by decide
  noResponse := by decide
  timeout := by decide
  received := ⟨frameR.take 22, by decide, agrees_waiting rfl (.inr ⟨0, 16, by decide⟩)⟩

/-- The invariant holds after the RESET exchange of V-P2. -/
theorem witness_inv_finished : finished.Inv where
  params := by decide
  ppt := by decide
  cfgTimeout := by decide
  frame := ⟨by decide, by decide, by decide, by decide⟩
  rx := ⟨by decide, by decide, by decide, by decide⟩
  flags := by decide
  outcome := by decide
  idle := by decide
  waiting := by decide
  counted := by decide
  noResponse := by decide
  timeout := by decide
  received := ⟨frameR, by decide, fun h => absurd h (by decide), fun _ => ⟨⟨0, 16, by decide⟩, by decide⟩, fun h => absurd h (by decide),
    fun h => absurd h (by decide)⟩

/-- The invariant holds with a full receive buffer. -/
theorem witness_inv_full : full.Inv where
  params := by decide
  ppt := by decide
  cfgTimeout := by decide
  frame := ⟨by decide, by decide, by decide, by decide⟩
  rx := ⟨by decide, by decide, by decide, by decide⟩
  flags := by decide
  outcome := by decide
  idle := by decide
  waiting := by decide
  counted := by decide
  noResponse := by decide
  timeout := by decide
  received := ⟨List.replicate 23 0x55, by decide, agrees_waiting rfl (.inl (by decide))⟩

theorem witness_decode_of_encode :
    (Instr.encProgram 0x1000 [0x11]).wellFormed = true ∧ (Instr.wireErase 1 0 [0xFF]).wellFormed = true := by decide

theorem witness_decoded_request : decodeRequest [0x11, 0, 0, 0x28, 0, 1] = .ok (.encErase 0x280000 1) := by decide

/-- The first and last opcode of each illegal range, and a state that is given one; the opcodes beside the ranges are
legal. -/
theorem witness_illegal_opcodes :
    (∀ opc ∈ ([0x00, 0x09, 0x0F, 0x18, 0x1F, 0x24, 0x2F, 0x32, 0xFF] : List Byte),
      opc.toNat = 0 ∨ (0x09 ≤ opc.toNat ∧ opc.toNat ≤ 0x0F) ∨ (0x18 ≤ opc.toNat ∧ opc.toNat ≤ 0x1F) ∨
        (0x24 ≤ opc.toNat ∧ opc.toNat ≤ 0x2F) ∨ 0x32 ≤ opc.toNat) ∧
    (∀ opc ∈ ([0x01, 0x08, 0x10, 0x17, 0x20, 0x23, 0x30, 0x31] : List Byte),
      ¬ (opc.toNat = 0 ∨ (0x09 ≤ opc.toNat ∧ opc.toNat ≤ 0x0F) ∨ (0x18 ≤ opc.toNat ∧ opc.toNat ≤ 0x1F) ∨
        (0x24 ≤ opc.toNat ∧ opc.toNat ≤ 0x2F) ∨ 0x32 ≤ opc.toNat)) ∧
    (given State.reset [.request [0x09], .tick]).inputs = .request [0x09] :: [.tick] := by decide

/-- One request of each format, one byte off; a state that is given one; an illegal opcode at two lengths. -/
theorem witness_wrong_length :
    ([0x10, 0x00] : List Byte).length ≠ 1 ∧ ([0x02] : List Byte).length ≠ 2 ∧ ([0x20, 0, 0, 0] : List Byte).length ≠ 5 ∧
    ([0x11, 0, 0, 0, 0] : List Byte).length ≠ 6 ∧
    ([0x12, 0, 0, 0, 0, 2, 0, 1] : List Byte).length ≠ 7 + (rd16 [0x12, 0, 0, 0, 0, 2, 0, 1] 5).toNat ∧
    ([0x15, 0, 0, 1] : List Byte).length ≠ 3 + (rd16 [0x15, 0, 0, 1] 1).toNat ∧
    ([0x31, 0, 0, 0, 0] : List Byte).length ≠ 6 ∧
    (given State.reset [.request [0x03, 0x00]]).inputs = .request [0x03, 0x00] :: [] ∧
    decodeRequest [0x03, 0x00] = .error .badLength ∧ decodeRequest [0x09] = .error .illegalOp := by decide

theorem witness_step_runs_request :
    (given State.reset [.request [0x06, 0x41], .tick]).inputs = .request [0x06, 0x41] :: [.tick] ∧
    decodeRequest [0x06, 0x41] = .ok (.crc16Update 0x41) := by decide

theorem witness_step_runs_wire_command :
    (let s := given (waiting (frameE.take 22)) [.rxByte 0x00]
     s.inputs = .rxByte 0x00 :: [] ∧ s.cstate = .waiting ∧ s.rxLen.toNat < s.params.rxCap.toNat ∧
     s.rxBytes = .ok (frameE.take 22) ∧ decodeFrame (frameE.take 22 ++ [0x00]) = .ok (.wireErase 1 0 [])) := by decide

/-- No input; a byte in IDLE; a tick in DONE. -/
theorem witness_quiescent :
    State.reset.inputs = [] ∧
    ((given State.reset [.rxByte 7]).cstate = .idle ∧ (given State.reset [.rxByte 7]).inputs = .rxByte 7 :: []) ∧
    ((given finished [.tick]).cstate = .done ∧ (given finished [.tick]).inputs = .tick :: []) := by decide

/-- A step that answers a request with a refusal, and one that answers OK. -/
theorem witness_refusals_are_precise :
    (∃ t, step (given State.reset [.request [0x23]]) = .next t ∧ t.responses = [] ++ [[0x05]]) ∧
    (∃ t, step (given State.reset [.request [0x01]]) = .next t ∧ t.responses = [] ++ [[0x00]]) :=
  ⟨⟨_, rfl, rfl⟩, ⟨_, rfl, rfl⟩⟩

/-- The invariant with a request to take. -/
theorem witness_every_request_is_answered :
    (given State.reset [.request []]).Inv ∧ (given State.reset [.request []]).inputs = .request [] :: [] := by
  refine ⟨⟨by decide, by decide, by decide, ⟨by decide, by decide, by decide, by decide⟩,
    ⟨by decide, by decide, by decide, by decide⟩, by decide, by decide, by decide, by decide, by decide, by decide, by decide,
    ⟨[], by decide, fun h => absurd h (by decide), fun h => absurd h (by decide), fun h => absurd h (by decide),
      fun h => absurd h (by decide)⟩⟩, rfl⟩

/-- Argument strings of another length than the format's, for the operations without and with operands. -/
theorem witness_argument_lengths :
    ([0x00] : List Byte) ≠ [] ∧ ([] : List Byte).length ≠ 1 ∧ ([0, 0, 0] : List Byte).length ≠ 4 ∧
    ([0, 0, 0, 0] : List Byte).length ≠ 5 ∧ ([1, 0] : List Byte).length ≠ 2 + (rd16 [1, 0] 0).toNat ∧
    ([0, 0, 0, 0, 1, 0] : List Byte).length ≠ 6 + (rd16 [0, 0, 0, 0, 1, 0] 4).toNat := by decide

/-- Data strings of no byte and of the largest count. -/
theorem witness_counts :
    ([] : List Byte).length ≤ 65535 ∧ (List.replicate 65535 (0 : Byte)).length ≤ 65535 := by
  simp only [List.length_replicate]; decide

/-- Two feeds in a row, and the same bytes in one, all reach a next state. -/
theorem witness_crc_feeds :
    (∃ t u v, exec (.crc32Feed [0x31]) State.reset = .next t ∧ exec (.crc32Feed [0x32]) t = .next u ∧
      exec (.crc32Feed ([0x31] ++ [0x32])) State.reset = .next v) ∧
    (∃ t u v, exec (.crc16Feed [0x31]) State.reset = .next t ∧ exec (.crc16Feed [0x32]) t = .next u ∧
      exec (.crc16Feed ([0x31] ++ [0x32])) State.reset = .next v) :=
  ⟨⟨_, _, _, rfl, rfl, rfl⟩, ⟨_, _, _, rfl, rfl, rfl⟩⟩

/-- A CRC operation of each kind in the frame statement. -/
theorem witness_crc_frame :
    (writesCrc (.crc32Update 0x31) = true ∧ ∃ t, exec (.crc32Update 0x31) State.reset = .next t) ∧
    (writesCrc .crc16Init = true ∧ ∃ t, exec .crc16Init State.reset = .next t) ∧
    ∃ t, exec .crc16Read State.reset = .next t :=
  ⟨⟨rfl, _, rfl⟩, ⟨rfl, _, rfl⟩, _, rfl⟩

/-- A payload whose sum is a multiple of 256. -/
theorem witness_dcs_zero : (([0x80, 0x80] : List Byte).map fun b => b.toNat).sum % 256 = 0 := by decide

/-- An instance at the bounds of R6, and the default one. -/
theorem witness_legal_parameters : State.reset.params.Legal ∧ full.params.Legal := by decide

/-- The smallest data that does not fit, and the largest that does (V-ENC-R1, V-ENC-R2). -/
theorem witness_enc_program_capacity :
    State.reset.params.txCap.toNat < 28 + (List.replicate 997 (0xFF : Byte)).length ∧
    28 + (List.replicate 996 (0xFF : Byte)).length ≤ State.reset.params.txCap.toNat := by
  simp only [List.length_replicate]; decide

/-- A PROGRAM frame and then a write of PPT. -/
theorem witness_enc_program_then_write :
    ∃ t u, exec (.encProgram 0 [0x11]) State.reset = .next t ∧ exec (.cfgWrite 0 3) t = .next u :=
  ⟨_, _, rfl, rfl⟩

/-- The same for FRAME_LOAD (V-ENC-R3, V-ENC-R4), and an empty load outside WAITING. -/
theorem witness_frame_load_capacity :
    State.reset.params.txCap.toNat < (List.replicate 1025 (0 : Byte)).length ∧
    (List.replicate 1024 (0 : Byte)).length ≤ State.reset.params.txCap.toNat ∧
    State.reset.cstate ≠ .waiting ∧ ∃ t, exec (.frameLoad []) State.reset = .next t := by
  simp only [List.length_replicate]
  exact ⟨by decide, by decide, by decide, _, rfl⟩

/-- A frame buffer and a receive buffer whose valid bytes are all there. -/
theorem witness_covers :
    (loaded frameR).frameBuf.Covers (loaded frameR).frameLen.toNat ∧
    (waiting [0x55, 0xAA]).rxBuf.Covers (waiting [0x55, 0xAA]).rxLen.toNat ∧
    State.reset.frameBuf.Covers State.reset.frameLen.toNat := by decide

/-- A frame that is stored, and one that is refused, in the statements about the buffer's writers. -/
theorem witness_stored_frame :
    storedFrame State.reset (.frameLoad [0xAA]) = some [0xAA] ∧ ([0xAA] : List Byte).length ≤ State.reset.params.txCap.toNat ∧
    ([0xAA] : List Byte) ≠ [] ∧ State.reset.cstate ≠ .waiting ∧ (∃ t, exec (.frameLoad [0xAA]) State.reset = .next t) ∧
    (let s := { State.reset with params := { Params.default with rxCap := 23, txCap := 1, pptReset := 1 } }
     storedFrame s (.frameLoad [0xAA, 0xBB]) = some [0xAA, 0xBB] ∧ s.params.txCap.toNat < ([0xAA, 0xBB] : List Byte).length ∧
       ∃ t, exec (.frameLoad [0xAA, 0xBB]) s = .next t) :=
  ⟨rfl, by decide, by decide, by decide, ⟨_, rfl⟩, rfl, by decide, _, rfl⟩

theorem witness_encoded_frames :
    encodedCommand (.encErase 0x280000 1) = some 0xCB ∧ ∃ t, exec (.encErase 0x280000 1) State.reset = .next t :=
  ⟨rfl, _, rfl⟩

/-- No header in two zero bytes; a first header after a zero byte. -/
theorem witness_parser_headers :
    (∀ i, ¬ HeaderAt [0x00, 0x00] i) ∧ FirstHeader (0x00 :: frameR) 1 := by
  refine ⟨fun i h => by simp [HeaderAt] at h, ⟨by decide, by decide⟩, fun j hj h => ?_⟩
  obtain rfl : j = 0 := by omega
  exact absurd h.2 (by decide)

/-- Each settled result, and the bytes that give it. -/
theorem witness_settled :
    isSettled (parseFrame frameR) = true ∧ isSettled (parseFrame (frameR.take 22 ++ [0x01])) = true ∧
    isSettled (parseFrame (frameR.take 21 ++ [0x35, 0x00])) = true ∧
    isSettled (parseFrame [0x00, 0x00, 0xFF, 0x00, 0x00, 0x00, 0x00]) = true := by decide

/-- PARSE one byte above RX_CAP, and at it. -/
theorem witness_parse_capacity :
    full.params.rxCap.toNat < (List.replicate 24 (0 : Byte)).length ∧
    (List.replicate 23 (0 : Byte)).length ≤ full.params.rxCap.toNat := by decide

/-- The three cases of XACT_START. -/
theorem witness_xact_start :
    (waiting []).cstate = .waiting ∧ (State.reset.cstate ≠ .waiting ∧ State.reset.frameLen = 0) ∧
    (finished.cstate ≠ .waiting ∧ finished.frameLen ≠ 0 ∧ finished.frameBuf.Covers finished.frameLen.toNat) := by decide

theorem witness_xact_status : (waiting (frameR.take 22)).Inv ∧ (waiting (frameR.take 22)).cstate = .waiting :=
  ⟨witness_inv_waiting, rfl⟩

/-- No frame to read, and one. -/
theorem witness_xact_read_frame :
    (State.reset.outcome ≠ .success ∧ State.reset.outcome ≠ .commandError) ∧ finished.Inv ∧ finished.outcome = .success :=
  ⟨by decide, witness_inv_finished, rfl⟩

/-- A byte in DONE, into a full buffer, and into one with room. -/
theorem witness_rx_byte :
    ((given finished [.rxByte 7]).inputs = .rxByte 7 :: [] ∧ (given finished [.rxByte 7]).cstate ≠ .waiting) ∧
    ((given full [.rxByte 7]).cstate = .waiting ∧ (given full [.rxByte 7]).rxLen = (given full [.rxByte 7]).params.rxCap) ∧
    (let s := given (waiting (frameR.take 22)) [.rxByte 0x00]
     s.cstate = .waiting ∧ s.rxLen.toNat < s.params.rxCap.toNat ∧ s.rxBytes = .ok (frameR.take 22)) := by decide

/-- A tick in IDLE; on the last tick before the timeout; on the grace's last tick; and on one that ends nothing. -/
theorem witness_tick :
    (given State.reset [.tick]).cstate ≠ .waiting ∧
    (let s := given { waiting [0x55, 0xAA, 0x01] with elapsed := 4999 } [.tick]
     s.inputs = .tick :: [] ∧ s.cstate = .waiting ∧ s.rxBytes = .ok [0x55, 0xAA, 0x01] ∧
       s.xTimeout.toNat ≤ (satInc s.elapsed).toNat) ∧
    (let s := given { waiting [0x55, 0xAA, 0x01] with elapsed := 4998, silence := 999 } [.tick]
     (satInc s.elapsed).toNat < s.xTimeout.toNat ∧ s.xGrace ≠ 0 ∧ 3 ≤ s.rxLen.toNat ∧
       slice [0x55, 0xAA, 0x01] 0 3 ≠ [0x00, 0x00, 0xFF] ∧ s.xGrace.toNat ≤ (satInc s.silence).toNat) ∧
    (let s := given { waiting [0x55, 0xAA, 0x01] with elapsed := 4998, silence := 998 } [.tick]
     (satInc s.elapsed).toNat < s.xTimeout.toNat ∧ ¬ s.xGrace.toNat ≤ (satInc s.silence).toNat) := by decide

theorem witness_wire_commands : (waiting []).cstate = .waiting ∧ State.reset.cstate ≠ .waiting := by decide

/-- A byte and a tick of a waiting transaction reach next states. -/
theorem witness_events_frame :
    (∃ t, step (given (waiting (frameR.take 2)) [.rxByte 0xFF]) = .next t) ∧ ∃ t, step (given (waiting []) [.tick]) = .next t :=
  ⟨⟨_, rfl⟩, _, rfl⟩

/-- XACT_START refused while WAITING, refused without a frame, and accepted. -/
theorem witness_xact_start_frame :
    ((waiting []).cstate = .waiting ∧ ∃ t, exec (.xactStart 0) (waiting []) = .next t) ∧
    (State.reset.frameLen = 0 ∧ ∃ t, exec (.xactStart 0) State.reset = .next t) ∧
    ∃ t, exec (.xactStart 0) (loaded [0xAA]) = .next t :=
  ⟨⟨rfl, _, rfl⟩, ⟨rfl, _, rfl⟩, _, rfl⟩

/-- A step along each transition: start, byte, tick, reset, and one that stays. -/
theorem witness_transitions :
    (∃ t, step (given (loaded [0xAA]) [.request [0x20, 0, 0, 0, 0]]) = .next t ∧ t.cstate = .waiting) ∧
    (∃ t, step (given (waiting (frameR.take 22)) [.rxByte 0x00]) = .next t ∧ t.cstate = .done) ∧
    (∃ t, step (given { waiting [] with elapsed := 4999 } [.tick]) = .next t ∧ t.cstate = .done) ∧
    (∃ t, step (given finished [.reset]) = .next t ∧ t.cstate = .idle) ∧
    (∃ t, step (given finished [.tick]) = .next t ∧ t.cstate = .done) :=
  ⟨⟨_, rfl, by decide⟩, ⟨_, rfl, by decide⟩, ⟨_, rfl, by decide⟩, ⟨_, rfl, rfl⟩, ⟨_, rfl, rfl⟩⟩

/-- A sound waiting transaction with one tick left and a tick to come, after a byte and a request. -/
theorem witness_transaction_terminates :
    (let s := given { waiting (frameR.take 22) with elapsed := 4999 } ([.rxByte 0x01, .request [0x21], .tick] ++ [.reset])
     s.Inv ∧ s.cstate = .waiting ∧ s.inputs = [.rxByte 0x01, .request [0x21], .tick] ++ [.reset] ∧
       Input.reset ∉ ([.rxByte 0x01, .request [0x21], .tick] : List Input) ∧
       s.xTimeout.toNat - s.elapsed.toNat ≤ tickCount [.rxByte 0x01, .request [0x21], .tick]) := by
  refine ⟨⟨by decide, by decide, by decide, ⟨by decide, by decide, by decide, by decide⟩,
    ⟨by decide, by decide, by decide, by decide⟩, by decide, by decide, by decide, by decide, by decide, by decide, by decide,
    ⟨frameR.take 22, by decide, agrees_waiting rfl (.inr ⟨0, 16, by decide⟩)⟩⟩, rfl, rfl, by decide, by decide⟩

/-- Steps that append to the TX trace and that do not. -/
theorem witness_tx_trace :
    (∃ t, step (given (loaded [0xAA]) [.request [0x20, 0, 0, 0, 0]]) = .next t ∧ t.txTrace = [0xAA]) ∧
    ∃ t, step (given (loaded [0xAA]) [.request [0x16]]) = .next t :=
  ⟨⟨_, rfl, by decide⟩, _, rfl⟩

/-- A configuration write and a reset while a transaction waits. -/
theorem witness_latched :
    ((waiting []).cstate = .waiting ∧ ∃ t, step (given (waiting []) [.request [0x31, 1, 9, 0, 0, 0]]) = .next t) ∧
    ∃ t, step (given (waiting []) [.reset]) = .next t :=
  ⟨⟨rfl, _, rfl⟩, _, rfl⟩

/-- A byte, a start and a reset in DONE. -/
theorem witness_held_in_done :
    (finished.cstate = .done ∧ ∃ t, step (given finished [.rxByte 7]) = .next t) ∧
    (∃ t, step (given finished [.request [0x20, 0, 0, 0, 0]]) = .next t) ∧ ∃ t, step (given finished [.reset]) = .next t :=
  ⟨⟨rfl, _, rfl⟩, ⟨_, rfl⟩, _, rfl⟩

/-- The first index without a register, and legal and illegal values at the bounds of each register. -/
theorem witness_configuration :
    5 ≤ (5 : Byte).toNat ∧ (1 ≤ (1 : Word).toNat ∧ (1 : Word).toNat ≤ 3) ∧ (1 ≤ (3 : Word).toNat ∧ (3 : Word).toNat ≤ 3) ∧
    ¬ (1 ≤ (0 : Word).toNat ∧ (0 : Word).toNat ≤ 3) ∧ ¬ (1 ≤ (4 : Word).toNat ∧ (4 : Word).toNat ≤ 3) ∧
    (1 : Word) ≠ 0 ∧ (0xFFFFFFFF : Word) ≠ 0 := by decide

theorem witness_configuration_frame :
    (∃ t, exec (.cfgRead 2) State.reset = .next t) ∧ ∃ t, exec (.cfgWrite 1 9) State.reset = .next t :=
  ⟨⟨_, rfl⟩, _, rfl⟩

theorem witness_reset_input :
    (given (waiting []) [.reset]).inputs = .reset :: [] ∧ (given (waiting []) [.reset]).params.pptReset = 1 ∧
    (given (waiting []) [.reset]).params.timeoutReset = 5000 ∧ (given (waiting []) [.reset]).params.graceReset = 1000 := by decide

/-- The reset input in an instance with no default parameter. -/
theorem witness_instance_reset :
    (given { full with params := { full.params with timeoutReset := 9, graceReset := 0 } } [.reset]).inputs = .reset :: [] :=
  rfl

/-- A sound state with a step. -/
theorem witness_soundness : full.Inv ∧ ∃ t, step full = .next t := ⟨witness_inv_full, _, rfl⟩

/-- A read in each of two states. -/
theorem witness_reads :
    (onlyReads .xactReadFrame = true ∧ ∃ t, exec .xactReadFrame finished = .next t) ∧
    (onlyReads (.parse [0x00]) = true ∧ ∃ t, exec (.parse [0x00]) State.reset = .next t) :=
  ⟨⟨rfl, _, rfl⟩, rfl, _, rfl⟩

/-- Steps that write each kind of field. -/
theorem witness_written_fields :
    (∃ t, step (given State.reset [.request [0x02, 0x31]]) = .next t ∧ t.crc32 = 0x7C231048) ∧
    (∃ t, step (given State.reset [.request [0x31, 0, 3, 0, 0, 0]]) = .next t ∧ t.ppt = 3) ∧
    (∃ t, step (given State.reset [.request [0x15, 1, 0, 0xAA]]) = .next t ∧ t.frameLen = 1) :=
  ⟨⟨_, rfl, by decide⟩, ⟨_, rfl, by decide⟩, _, rfl, by decide⟩

end Sys2Proof.Tests
end

section
/-! The step on a host request (00_scope.md R7, 20_memory.md R64). -/

namespace Sys2Proof.Machine

open Sys2Proof

theorem step_of_request {s : State} {q : List Byte} {rest : List Input} (hin : s.inputs = .request q :: rest) :
    step s = runFetched (fetchRequest q (s.withInputs rest)) := by
  simp only [step, fetch, hin]

theorem fetchRequest_of_ok {q : List Byte} {i : Instr} (hd : decodeRequest q = .ok i) (s : State) :
    fetchRequest q s = .run i s := by
  simp only [fetchRequest, hd]

/-- Settles O6: the fetch of the request is `.run i` on the state without it, and running that is exec. -/
theorem stepRunsTheDecodedRequest : Obligations.StepRunsTheDecodedRequest := by
  intro s q rest i hin hd
  calc step s
    _ = runFetched (fetchRequest q (s.withInputs rest)) := step_of_request hin
    _ = runFetched (.run i (s.withInputs rest)) := by rw [fetchRequest_of_ok hd]
    _ = exec i { s with inputs := rest } := rfl

end Sys2Proof.Machine
end

section
/-! The invariant of the block (Safety.lean) through every step: first what the register and buffer clauses need, then
each operation, then the step. -/

namespace Sys2Proof.Machine

open Sys2Proof

/-! ### Counters and flag bits -/

theorem satInc_toNat (x : Word) : (satInc x).toNat = min (x.toNat + 1) (2 ^ 32 - 1) := by
  simp only [satInc, BitVec.toNat_ofNat]
  omega

theorem le_satInc (x : Word) : x.toNat ≤ (satInc x).toNat := by
  have := x.isLt
  rw [satInc_toNat]
  omega

/-- Setting one of the bits 3:0 leaves the reserved bits 0 (10_state.md R32). -/
theorem setFlag_reserved {flags bit : Byte} (hf : flags &&& 0xF0 = 0) (hb : bit &&& 0xF0 = 0) :
    setFlag flags bit &&& 0xF0 = 0 := by
  rw [setFlag, BitVec.and_comm, BitVec.and_or_distrib_left, BitVec.and_comm 0xF0, BitVec.and_comm 0xF0, hf, hb]
  rfl

/-- SUCCESS and COMMAND_ERROR are the outcomes that have a frame (42_correlator.md R225). -/
theorem hasFrame_completeOutcome (result : Byte) : (completeOutcome result).hasFrame = true := by
  unfold completeOutcome
  split <;> rfl

/-! ### Buffers -/

/-- A length below another one of its width does not wrap. -/
theorem half_toNat_succ {x y : Half} (h : x.toNat < y.toNat) : (x + 1).toNat = x.toNat + 1 :=
  BitVec.toNat_add_of_lt (by have := y.isLt; simp; omega)

/-- With no valid byte nothing has to be written below the length. -/
theorem BufferOk.zero {m : Memory} {cap : Half} (hwf : m.wf = true) (hbelow : m.below cap.toNat = true) :
    BufferOk m 0 cap where
  wf := hwf
  below := hbelow
  lenLe := Nat.zero_le _
  covers := fun i hi => absurd hi (Nat.not_lt_zero i)

/-- One byte stored at the end, where there is room for it. -/
theorem BufferOk.push {m : Memory} {len cap : Half} (h : BufferOk m len cap) (b : Byte)
    (hlt : len.toNat < cap.toNat) : BufferOk (m.write len.toNat b) (len + 1) cap := by
  have hlen : (len + 1).toNat = len.toNat + 1 := half_toNat_succ hlt
  exact {
    wf := Memory.wf_write m _ b h.wf
    below := Memory.below_write b h.below hlt
    lenLe := by omega
    covers := hlen ▸ Memory.covers_write b h.covers }

/-- A string stored from 0 on, with its length as the valid length. -/
theorem BufferOk.of_bytes {m : Memory} {cap : Half} {f : List Byte} (hwf : m.wf = true)
    (hbelow : m.below cap.toNat = true) (hle : f.length ≤ cap.toNat)
    (hread : ∀ k (hk : k < f.length), m.read k = some f[k]) : BufferOk m (lenHalf f.length) cap := by
  have hlen : (lenHalf f.length).toNat = f.length := lenHalf_toNat (by have := cap.isLt; omega)
  exact {
    wf := hwf
    below := hbelow
    lenLe := by omega
    covers := fun i hi => by rw [hread i (by omega)]; rfl }

/-! ### The clauses that do not speak of the correlator state -/

/-- The clauses of `State.Inv` about registers and buffers: they stand in every correlator state, so they hold of the
states inside RX_BYTE and TICK as well, where a transaction is about to end. -/
structure State.RegistersOk (s : State) : Prop where
  params : s.params.Legal
  ppt : 1 ≤ s.ppt.toNat ∧ s.ppt.toNat ≤ 3
  cfgTimeout : s.cfgTimeout ≠ 0
  frame : BufferOk s.frameBuf s.frameLen s.params.txCap
  rx : BufferOk s.rxBuf s.rxLen s.params.rxCap
  flags : s.flags &&& 0xF0 = 0
  counted : s.rxLen.toNat ≤ s.rxTotal.toNat

theorem State.Inv.registersOk {s : State} (h : s.Inv) : s.RegistersOk := { h with }

namespace State.RegistersOk

variable {s : State}

theorem countTick (h : s.RegistersOk) : s.countTick.RegistersOk := { h with }

theorem countByte (h : s.RegistersOk) : s.countByte.RegistersOk :=
  { h with counted := Nat.le_trans h.counted (le_satInc _) }

/-- The byte counted and stored: the new length stays within the new count (10_state.md R29). -/
theorem storeByte (h : s.RegistersOk) (b : Byte) (hlt : s.rxLen.toNat < s.params.rxCap.toNat) :
    (s.countByte.setRx (s.rxBuf.write s.rxLen.toNat b) (s.rxLen + 1)).RegistersOk :=
  { h with
    rx := h.rx.push b hlt
    counted := by
      have := h.counted
      have := s.params.rxCap.isLt
      simp only [State.setRx_rxLen, State.setRx_rxTotal, State.countByte_rxTotal, satInc_toNat,
        half_toNat_succ hlt]
      omega }

/-- A transaction that goes on: it has not reached its timeout, and its bytes hold no complete frame yet. -/
theorem inv_of_waiting (h : s.RegistersOk) (hw : s.cstate = .waiting) (ho : s.outcome = .none)
    (ht : s.elapsed.toNat < s.xTimeout.toNat) {bs : List Byte} (hbs : s.rxBytes = .ok bs)
    (hp : parseFrame bs = .waitHeader ∨ ∃ h len, parseFrame bs = .waitBody h len) : s.Inv :=
  { h with
    outcome := by simp [hw, ho]
    idle := by simp [hw]
    waiting := fun _ => ht
    noResponse := by simp [ho]
    timeout := by simp [ho]
    received := ⟨bs, hbs, fun _ => hp, by simp [ho, XactOutcome.hasFrame], by simp [ho], by simp [ho]⟩ }

/-- A transaction that has ended with the outcome its bytes give. -/
theorem inv_of_done (h : s.RegistersOk) (hd : s.cstate = .done) (ho : s.outcome ≠ .none)
    (hn : s.outcome = .noResponse → s.rxTotal = 0) (ht : s.outcome = .timeout → s.rxTotal ≠ 0) {bs : List Byte}
    (hbs : s.rxBytes = .ok bs) (ha : ReceivedAgrees s bs) : s.Inv :=
  { h with
    outcome := by simp [hd, ho]
    idle := by simp [hd]
    waiting := by simp [hd]
    noResponse := hn
    timeout := ht
    received := ⟨bs, hbs, ha⟩ }

/-- The end of a transaction by a complete frame (42_correlator.md R226). -/
theorem complete_inv (h : s.RegistersOk) {bs : List Byte} (hbs : s.rxBytes = .ok bs) {hd len : Nat} {cmd result : Byte}
    (hp : parseFrame bs = .complete hd len cmd result) : (s.complete cmd result).Inv := by
  have hne {o : XactOutcome} (ho : o.hasFrame = false) : completeOutcome result ≠ o := fun e => by
    rw [← e, hasFrame_completeOutcome] at ho
    cases ho
  have hreg : (s.complete cmd result).RegistersOk := { h with }
  exact hreg.inv_of_done rfl (hne rfl) (fun e => absurd e (hne rfl)) (fun e => absurd e (hne rfl)) hbs
    ⟨nofun, fun _ => ⟨⟨hd, len, hp⟩, rfl⟩, fun e => absurd e (hne rfl), fun e => absurd e (hne rfl)⟩

/-- The end of a transaction by any other outcome: the received bytes must bear out the two a bad frame gives
(42_correlator.md R226), the count the two a timeout gives (R227). -/
theorem finish_inv (h : s.RegistersOk) (o : XactOutcome) {bs : List Byte} (hbs : s.rxBytes = .ok bs) (ho : o ≠ .none)
    (hf : o.hasFrame = false) (hn : o = .noResponse → s.rxTotal = 0) (ht : o = .timeout → s.rxTotal ≠ 0)
    (hc : o = .checksumMismatch → ∃ h len, parseFrame bs = .badChecksum h len)
    (hm : o = .frameMalformed → ∃ h len, parseFrame bs = .badTerminator h len ∨ parseFrame bs = .tooShort h len) :
    (s.finish o).Inv := by
  have hreg : (s.finish o).RegistersOk := { h with }
  exact hreg.inv_of_done rfl ho hn ht hbs ⟨nofun, fun hf' => absurd (hf.symm.trans hf') nofun, hc, hm⟩

/-- A timeout ends the transaction with NO_RESPONSE or TIMEOUT by the count of received bytes (42_correlator.md R227). -/
theorem finish_timeout_inv (h : s.RegistersOk) {bs : List Byte} (hbs : s.rxBytes = .ok bs) :
    (s.finish (timeoutOutcome s.rxTotal)).Inv := by
  unfold timeoutOutcome
  split
  · next h0 => exact h.finish_inv .noResponse hbs nofun rfl (fun _ => h0) nofun nofun nofun
  · next h0 => exact h.finish_inv .timeout hbs nofun rfl nofun (fun _ => h0) nofun nofun

end State.RegistersOk

/-! ### Operations -/

namespace State.Inv

variable {s t : State}

/-- A waiting transaction has no outcome yet (10_state.md R31). -/
theorem outcome_of_waiting (h : s.Inv) (hw : s.cstate = .waiting) : s.outcome = .none := by
  by_contra ho
  have := h.outcome.mpr ho
  simp [hw] at this

theorem withInputs (h : s.Inv) (l : List Input) : (s.withInputs l).Inv := { h with }

theorem withResponses (h : s.Inv) (l : List (List Byte)) : State.Inv { s with responses := l } := { h with }

theorem respond (h : s.Inv) (r : List Byte) : (s.respond r).Inv := h.withResponses _

theorem fail (h : s.Inv) (st : Status) : (s.fail st).Inv := h.withResponses _

theorem setCrc32 (h : s.Inv) (c : Word) : (s.setCrc32 c).Inv := { h with }

theorem setCrc16 (h : s.Inv) (c : Half) : (s.setCrc16 c).Inv := { h with }

/-- In IDLE no flag is set, so a bit is marked only where a transaction has been started. -/
theorem mark (h : s.Inv) (bit : Byte) (hc : s.cstate ≠ .idle) (hb : bit &&& 0xF0 = 0) : (s.mark bit).Inv :=
  { h with
    flags := setFlag_reserved h.flags hb
    idle := fun hi => absurd hi hc }

theorem setFrame (h : s.Inv) {m : Memory} {n : Half} (hm : BufferOk m n s.params.txCap) : (s.setFrame m n).Inv :=
  { h with frame := hm }

theorem storeFrame (h : s.Inv) {f : List Byte} (hst : storeFrame f s = .next t) : t.Inv := by
  rcases storeFrame_cases hst with ⟨-, rfl⟩ | ⟨hle, m, rfl, hread, -, hwf, hbelow⟩
  · exact h.fail _
  · exact (h.setFrame (.of_bytes (hwf h.frame.wf) (hbelow h.frame.below) hle hread)).respond _

/-- A legal configuration write keeps `ppt` in 1 to 3 and `cfg_timeout` off 0 (43_config.md R285). -/
theorem configWrite (h : s.Inv) {idx : Byte} {v : Word} (hc : configWrite idx v s = some t) : t.Inv := by
  rcases configWrite_cases hc with ⟨-, hv, rfl⟩ | ⟨-, hv, rfl⟩ | ⟨-, rfl⟩
  · have hppt : 1 ≤ (v.extractLsb' 0 8).toNat ∧ (v.extractLsb' 0 8).toNat ≤ 3 := by
      rcases hv with rfl | rfl | rfl <;> decide
    exact { h with ppt := hppt }
  · exact { h with cfgTimeout := hv }
  · exact { h with }

/-- The timeout XACT_START latches is never 0 (42_correlator.md R222). -/
theorem timeoutOperand_ne_zero (h : s.Inv) (w : Word) : timeoutOperand w s ≠ 0 := by
  unfold timeoutOperand
  split
  · exact h.cfgTimeout
  · assumption

/-- A new transaction: no byte stored, no time passed, and a timeout to wait for. -/
theorem emit_arm (h : s.Inv) (f : List Byte) {w : Word} (hw : w ≠ 0) : ((s.emit f).arm w).Inv := by
  have hreg : ((s.emit f).arm w).RegistersOk :=
    { h with rx := .zero h.rx.wf h.rx.below, flags := BitVec.zero_and, counted := Nat.le_refl _ }
  have hpos : 0 < w.toNat := Nat.pos_of_ne_zero fun h0 => hw (BitVec.eq_of_toNat_eq h0)
  exact hreg.inv_of_waiting rfl rfl hpos rfl (.inl rfl)

theorem xactStart (h : s.Inv) {w : Word} (hx : execXactStart w s = .next t) : t.Inv := by
  rcases execXactStart_cases hx with ⟨-, rfl⟩ | ⟨-, -, rfl⟩ | ⟨-, -, f, -, rfl⟩
  · exact h.fail _
  · exact h.fail _
  · exact (h.emit_arm f (h.timeoutOperand_ne_zero w)).respond _

/-- A host operation keeps the invariant. A wire command runs only on a received byte, whose case is `rxByte`. -/
theorem exec (h : s.Inv) {i : Instr} (hi : i.space = .host) (hx : exec i s = .next t) : t.Inv := by
  rcases exec_cases hx with ⟨r, rfl⟩ | ⟨-, c, rfl⟩ | ⟨-, c, rfl⟩ | ⟨f, -, hst⟩ | ⟨w, -, hst⟩ | ⟨idx, v, u, -, hu, rfl⟩ |
    ⟨hwire, -⟩
  · exact h.withResponses _
  · exact (h.setCrc32 c).respond _
  · exact (h.setCrc16 c).respond _
  · exact h.storeFrame hst
  · exact h.xactStart hst
  · exact (h.configWrite hu).respond _
  · rw [hi] at hwire
    cases hwire

/-! ### Events -/

/-- What the bytes of a waiting transaction parse to while it waits. -/
theorem waiting_parse (h : s.Inv) (hw : s.cstate = .waiting) {bs : List Byte} (hbs : s.rxBytes = .ok bs) :
    parseFrame bs = .waitHeader ∨ ∃ h len, parseFrame bs = .waitBody h len := by
  obtain ⟨bs', hbs', hwait, -⟩ := h.received
  cases hbs.symm.trans hbs'
  exact hwait hw

/-- A byte counted while a transaction waits, which goes on. -/
theorem countByte (h : s.Inv) (hw : s.cstate = .waiting) : s.countByte.Inv := by
  obtain ⟨bs, hbs, -⟩ := h.received
  exact h.registersOk.countByte.inv_of_waiting hw (h.outcome_of_waiting hw) (h.waiting hw) hbs (h.waiting_parse hw hbs)

end State.Inv

/-- Once a byte is stored the transaction goes on or ends, and its outcome is the one the received bytes give
(42_correlator.md R226). -/
theorem State.RegistersOk.afterParse_inv {s : State} (h : s.RegistersOk) (hw : s.cstate = .waiting)
    (ho : s.outcome = .none) (ht : s.elapsed.toNat < s.xTimeout.toNat) {bs : List Byte} (hbs : s.rxBytes = .ok bs) :
    (afterParse (parseFrame bs) s).Inv := by
  cases hp : parseFrame bs with
  | waitHeader => exact h.inv_of_waiting hw ho ht hbs (.inl hp)
  | waitBody hd len => exact h.inv_of_waiting hw ho ht hbs (.inr ⟨hd, len, hp⟩)
  | complete hd len cmd result => exact h.complete_inv hbs hp
  | badChecksum hd len => exact h.finish_inv .checksumMismatch hbs nofun rfl nofun nofun (fun _ => ⟨hd, len, hp⟩) nofun
  | badTerminator hd len =>
    exact (h.finish_inv .frameMalformed hbs nofun rfl nofun nofun nofun fun _ => ⟨hd, len, .inl hp⟩).mark
      flagBadTerminator nofun (by decide)
  | tooShort hd len =>
    exact (h.finish_inv .frameMalformed hbs nofun rfl nofun nofun nofun fun _ => ⟨hd, len, .inr hp⟩).mark
      flagTooShort nofun (by decide)

/-- A desynchronisation needs three stored bytes (42_correlator.md R228). -/
theorem desync_rxLen {s : State} (h : s.desync = .ok true) : 3 ≤ s.rxLen.toNat := by
  unfold State.desync at h
  split at h
  · next hc => exact hc.2.1
  · cases h

namespace State.Inv

variable {s t : State}

/-- RX_BYTE. -/
theorem rxByte (h : s.Inv) {b : Byte} (hx : runFetched (fetchByte b s) = .next t) : t.Inv := by
  rcases fetchByte_cases hx with ⟨-, rfl⟩ | ⟨hw, -, rfl⟩ | ⟨hw, -, hlt, bs, hbs, rfl⟩
  · exact h
  · exact (h.countByte hw).mark flagOverflow (by simp [hw]) (by decide)
  · exact (h.registersOk.storeByte b hlt).afterParse_inv hw (h.outcome_of_waiting hw) (h.waiting hw) hbs

/-- TICK. A desynchronisation ends with TIMEOUT like a timeout after some byte, since three bytes have been counted. -/
theorem tick (h : s.Inv) (hx : s.tick = .ok t) : t.Inv := by
  obtain ⟨bs, hbs, -⟩ := h.received
  have hreg := h.registersOk.countTick
  rcases tick_cases hx with ⟨-, rfl⟩ | ⟨-, -, rfl⟩ | ⟨-, -, hd, rfl⟩ | ⟨hw, ht, -, rfl⟩
  · exact h
  · exact hreg.finish_timeout_inv hbs
  · have hlen : 3 ≤ s.rxLen.toNat := desync_rxLen (s := s.countTick) hd
    have hne : s.rxTotal ≠ 0 := fun h0 => by
      have hcount : s.rxLen.toNat ≤ 0 := by simpa [h0] using h.counted
      omega
    exact (hreg.finish_inv .timeout hbs nofun rfl nofun (fun _ => hne) nofun nofun).mark flagDesync nofun (by decide)
  · exact hreg.inv_of_waiting hw (h.outcome_of_waiting hw) ht hbs (h.waiting_parse hw hbs)

end State.Inv

/-! ### Reset -/

/-- The reset input leaves a sound state, whatever the state was, where the parameters are legal
(70_reset_and_hazards.md R340). -/
theorem State.resetInput_inv {s : State} (h : s.params.Legal) : s.resetInput.Inv := by
  have ⟨_, _, hlow, hhigh, htimeout⟩ := h
  exact {
    params := h
    ppt := ⟨hlow, hhigh⟩
    cfgTimeout := fun h0 => by
      rw [State.resetInput_cfgTimeout] at h0
      simp [h0] at htimeout
    frame := .zero rfl rfl
    rx := .zero rfl rfl
    flags := BitVec.zero_and
    outcome := by simp
    idle := by simp
    waiting := nofun
    counted := Nat.le_refl _
    noResponse := nofun
    timeout := nofun
    received := ⟨[], rfl, nofun, nofun, nofun, nofun⟩ }

/-- Settles O55: the power-on state is what the reset input leaves of itself. -/
theorem resetStateIsSound : Obligations.ResetStateIsSound :=
  State.resetInput_inv (s := State.reset) (by decide)

/-! ### The step -/

/-- Settles O56, by the six things a step can be. -/
theorem stepKeepsSoundness : Obligations.StepKeepsSoundness := by
  intro s t h hstep
  rcases step_cases hstep with ⟨-, rfl⟩ | ⟨q, rest, i, -, hd, hx⟩ | ⟨q, rest, st, -, -, rfl⟩ | ⟨b, rest, -, hx⟩ |
    ⟨rest, -, hx⟩ | ⟨rest, -, rfl⟩
  · exact h
  · exact (h.withInputs rest).exec (decodeRequest_space hd) hx
  · exact (h.withInputs rest).fail st
  · exact (h.withInputs rest).rxByte hx
  · exact (h.withInputs rest).tick hx
  · exact State.resetInput_inv h.params

end Sys2Proof.Machine
end

section
/-! Which parts of the state an operation, an event and a step leave as they are (10_state.md R40, column "written
by"). -/

namespace Sys2Proof.Machine

open Sys2Proof

/-! ### The CRC operations -/

/-- A CRC operation writes its own register and answers once (40_crc.md R126 to R133). -/
theorem exec_crc {i : Instr} {s t : State} (hi : writesCrc i = true ∨ i = .crc32Read ∨ i = .crc16Read)
    (hx : exec i s = .next t) :
    ∃ c32 c16 r, t = { s with crc32 := c32, crc16 := c16, responses := s.responses ++ [r] } ∧
      (c32 = s.crc32 ∨ i = .crc32Init ∨ (∃ b, i = .crc32Update b) ∨ ∃ d, i = .crc32Feed d) ∧
      (c16 = s.crc16 ∨ i = .crc16Init ∨ (∃ b, i = .crc16Update b) ∨ ∃ d, i = .crc16Feed d) := by
  rcases hi with hi | rfl | rfl
  · cases i with
    | crc32Init => exact ⟨_, _, _, (Host.Outcome.next.inj hx).symm, .inr (.inl rfl), .inl rfl⟩
    | crc32Update b => exact ⟨_, _, _, (Host.Outcome.next.inj hx).symm, .inr (.inr (.inl ⟨b, rfl⟩)), .inl rfl⟩
    | crc32Feed d => exact ⟨_, _, _, (Host.Outcome.next.inj hx).symm, .inr (.inr (.inr ⟨d, rfl⟩)), .inl rfl⟩
    | crc16Init => exact ⟨_, _, _, (Host.Outcome.next.inj hx).symm, .inl rfl, .inr (.inl rfl)⟩
    | crc16Update b => exact ⟨_, _, _, (Host.Outcome.next.inj hx).symm, .inl rfl, .inr (.inr (.inl ⟨b, rfl⟩))⟩
    | crc16Feed d => exact ⟨_, _, _, (Host.Outcome.next.inj hx).symm, .inl rfl, .inr (.inr (.inr ⟨d, rfl⟩))⟩
    | _ => cases hi
  · exact ⟨_, _, _, (Host.Outcome.next.inj hx).symm, .inl rfl, .inl rfl⟩
  · exact ⟨_, _, _, (Host.Outcome.next.inj hx).symm, .inl rfl, .inl rfl⟩

/-- Settles O21, by what a CRC operation writes. -/
theorem crcOperationsFrame : Obligations.CrcOperationsFrame := by
  intro s t i hi hx
  obtain ⟨c32, c16, r, rfl, h32, h16⟩ := exec_crc hi hx
  refine ⟨⟨?config, ?frame, ?rx, ?result, ?progress, rfl, rfl⟩, h32, h16, r, rfl⟩
  case config => exact ⟨rfl, rfl, rfl, rfl⟩
  case frame => exact ⟨rfl, fun _ => rfl⟩
  case rx => exact ⟨rfl, fun _ => rfl⟩
  case result => exact ⟨rfl, rfl, rfl, rfl⟩
  case progress => exact ⟨rfl, rfl, rfl, rfl, rfl, rfl⟩

/-! ### The parts that only host operations and the reset input write -/

theorem SameCrc.refl (s : State) : SameCrc s s := ⟨rfl, rfl⟩

theorem SameConfig.refl (s : State) : SameConfig s s := ⟨rfl, rfl, rfl, rfl⟩

theorem SameFrame.refl (s : State) : SameFrame s s := ⟨rfl, fun _ => rfl⟩

/-- The parts of the state that no event writes: CRC registers, configuration and constants, frame buffer, TX line. -/
structure SameHostSide (s t : State) : Prop where
  crc : SameCrc s t
  config : SameConfig s t
  frame : SameFrame s t
  tx : SameTx s t

theorem SameHostSide.refl (s : State) : SameHostSide s s := ⟨.refl s, .refl s, .refl s, rfl⟩

theorem SameHostSide.params {s t : State} (h : SameHostSide s t) : t.params = s.params := by
  obtain ⟨-, -, -, hparams⟩ := h.config
  exact hparams

/-- An answer alone, given or refused, writes none of them. -/
theorem SameHostSide.answered (s : State) (l : List (List Byte)) : SameHostSide s { s with responses := l } :=
  { SameHostSide.refl s with }

theorem afterParse_sameHostSide (r : ParseResult) (s : State) : SameHostSide s (afterParse r s) := by
  cases r <;> exact { SameHostSide.refl s with }

/-- RX_BYTE. -/
theorem fetchByte_sameHostSide {b : Byte} {s t : State} (h : runFetched (fetchByte b s) = .next t) :
    SameHostSide s t := by
  rcases fetchByte_cases h with ⟨-, rfl⟩ | ⟨-, -, rfl⟩ | ⟨-, -, -, bs, -, rfl⟩
  · exact .refl _
  · exact { SameHostSide.refl s with }
  · exact { afterParse_sameHostSide (parseFrame bs) (s.countByte.setRx _ _) with }

/-- TICK. -/
theorem tick_sameHostSide {s t : State} (h : s.tick = .ok t) : SameHostSide s t := by
  rcases tick_cases h with ⟨-, rfl⟩ | ⟨-, -, rfl⟩ | ⟨-, -, -, rfl⟩ | ⟨-, -, -, rfl⟩
  · exact .refl _
  · exact { SameHostSide.refl s with }
  · exact { SameHostSide.refl s with }
  · exact { SameHostSide.refl s with }

theorem acceptCommand_sameHostSide {cmd result : Byte} {s t : State} (h : acceptCommand cmd result s = .next t) :
    SameHostSide s t := by
  by_cases hw : s.cstate = .waiting
  · rw [acceptCommand_waiting cmd result hw] at h
    cases h
    exact { SameHostSide.refl s with }
  · rw [acceptCommand_other cmd result hw] at h
    cases h
    exact .refl s

/-! ### What an instruction writes of them -/

/-- Which of those parts an instruction may write: each by the operations R40 lists, and the constants by none. -/
structure WrittenBy (i : Instr) (s t : State) : Prop where
  params : t.params = s.params
  crc : SameCrc s t ∨ writesCrc i = true
  config : SameConfig s t ∨ ∃ idx v, i = .cfgWrite idx v
  frame : SameFrame s t ∨ ∃ f, storedFrame s i = some f
  tx : SameTx s t ∨ ∃ w f, i = .xactStart w ∧ s.cstate ≠ .waiting ∧ s.frameBytes = .ok f ∧ t.txTrace = s.txTrace ++ f

theorem SameHostSide.writtenBy {s t : State} (h : SameHostSide s t) (i : Instr) : WrittenBy i s t :=
  ⟨h.params, .inl h.crc, .inl h.config, .inl h.frame, .inl h.tx⟩

theorem storeFrame_writtenBy {i : Instr} {f : List Byte} {s t : State} (hi : storedFrame s i = some f)
    (h : storeFrame f s = .next t) : WrittenBy i s t := by
  rcases storeFrame_cases h with ⟨-, rfl⟩ | ⟨-, m, rfl, -⟩
  · exact (SameHostSide.answered s _).writtenBy i
  · exact ⟨rfl, .inl (.refl s), .inl (.refl s), .inr ⟨f, hi⟩, .inl rfl⟩

theorem execXactStart_writtenBy {w : Word} {s t : State} (h : execXactStart w s = .next t) :
    WrittenBy (.xactStart w) s t := by
  rcases execXactStart_cases h with ⟨-, rfl⟩ | ⟨-, -, rfl⟩ | ⟨hw, -, f, hf, rfl⟩
  · exact (SameHostSide.answered s _).writtenBy _
  · exact (SameHostSide.answered s _).writtenBy _
  · exact ⟨rfl, .inl (.refl s), .inl (.refl s), .inl (.refl s), .inr ⟨w, f, rfl, hw, hf, rfl⟩⟩

theorem configWrite_writtenBy {idx : Byte} {v : Word} {s u : State} (h : configWrite idx v s = some u) :
    WrittenBy (.cfgWrite idx v) s (u.respond []) := by
  have hconfig {P : Prop} : P ∨ ∃ idx' v', Instr.cfgWrite idx v = .cfgWrite idx' v' := .inr ⟨idx, v, rfl⟩
  rcases configWrite_cases h with ⟨-, -, rfl⟩ | ⟨-, -, rfl⟩ | ⟨-, rfl⟩ <;>
    exact ⟨rfl, .inl (.refl s), hconfig, .inl (.refl s), .inl rfl⟩

theorem exec_writtenBy {i : Instr} {s t : State} (h : exec i s = .next t) : WrittenBy i s t := by
  rcases exec_cases h with ⟨r, rfl⟩ | ⟨hi, c, rfl⟩ | ⟨hi, c, rfl⟩ | ⟨f, hi, hx⟩ | ⟨w, rfl, hx⟩ |
    ⟨idx, v, u, rfl, hu, rfl⟩ | ⟨-, cmd, result, hx⟩
  · exact (SameHostSide.answered s _).writtenBy i
  · exact ⟨rfl, .inr hi, .inl (.refl s), .inl (.refl s), .inl rfl⟩
  · exact ⟨rfl, .inr hi, .inl (.refl s), .inl (.refl s), .inl rfl⟩
  · exact storeFrame_writtenBy hi hx
  · exact execXactStart_writtenBy hx
  · exact configWrite_writtenBy hu
  · exact (acceptCommand_sameHostSide hx).writtenBy i

/-! ### The step -/

theorem storedFrame_withInputs (s : State) (l : List Input) (i : Instr) :
    storedFrame (s.withInputs l) i = storedFrame s i := by
  cases i <;> rfl

/-- As far as those parts go, a step leaves them, takes the reset input, or runs the instruction of a request. -/
theorem step_hostSide {s t : State} (h : step s = .next t) :
    SameHostSide s t ∨ (∃ rest, s.inputs = .reset :: rest ∧ t = (s.withInputs rest).resetInput) ∨
      ∃ i rest, NextRuns s i ∧ WrittenBy i (s.withInputs rest) t := by
  rcases step_cases h with ⟨-, rfl⟩ | ⟨q, rest, i, hin, hd, hx⟩ | ⟨q, rest, st, -, -, rfl⟩ | ⟨b, rest, -, hx⟩ |
    ⟨rest, -, hx⟩ | ⟨rest, hin, rfl⟩
  · exact .inl (.refl _)
  · exact .inr (.inr ⟨i, rest, ⟨q, rest, hin, hd⟩, exec_writtenBy hx⟩)
  · exact .inl { SameHostSide.refl s with }
  · exact .inl { fetchByte_sameHostSide hx with }
  · exact .inl { tick_sameHostSide hx with }
  · exact .inr (.inl ⟨rest, hin, rfl⟩)

/-- Settles O47: the TX line is among the parts no event writes, and XACT_START is its only operation. -/
theorem txTraceGrowsOnlyByXactStart : Obligations.TxTraceGrowsOnlyByXactStart := by
  intro s t h
  rcases step_hostSide h with hsame | ⟨rest, -, rfl⟩ | ⟨i, rest, hrun, hw⟩
  · exact .inl hsame.tx
  · exact .inl rfl
  · rcases hw.tx with htx | ⟨w, f, rfl, hc, hf, htx⟩
    · exact .inl htx
    · exact .inr ⟨⟨w, hrun⟩, hc, f, hf, htx⟩

/-- Settles O59: each part is left, or the step is one of those that write it. -/
theorem fieldsAreWrittenOnlyByTheirOperations : Obligations.FieldsAreWrittenOnlyByTheirOperations := by
  intro s t h
  rcases step_hostSide h with hsame | ⟨rest, hin, rfl⟩ | ⟨i, rest, hrun, hw⟩
  · exact ⟨hsame.params, .inl hsame.crc, .inl hsame.config, .inl hsame.frame⟩
  · have hreset : NextResets s := ⟨rest, hin⟩
    exact ⟨rfl, .inr (.inl hreset), .inr (.inl hreset), .inr (.inl hreset)⟩
  · refine ⟨hw.params, ?crc, ?config, ?frame⟩
    case crc => exact hw.crc.imp_right fun hi => .inr ⟨i, hrun, hi⟩
    case config =>
      rcases hw.config with hc | ⟨idx, v, rfl⟩
      · exact .inl hc
      · exact .inr (.inr ⟨idx, v, hrun⟩)
    case frame =>
      refine hw.frame.imp_right fun ⟨f, hf⟩ => .inr ⟨i, f, hrun, ?_⟩
      rwa [storedFrame_withInputs] at hf

/-! ### The reset input -/

theorem step_of_reset {s : State} {rest : List Input} (hin : s.inputs = .reset :: rest) :
    step s = .next (s.withInputs rest).resetInput := by
  simp only [step, fetch, hin, runFetched]

/-- Settles O54: the power-on fields by evaluation, and the reset input by its one step, which forgets the buffers'
contents. -/
theorem powerOnAndInstanceResetValues : Obligations.PowerOnAndInstanceResetValues :=
  ⟨rfl, rfl, rfl, rfl, rfl, rfl, rfl, rfl, rfl, rfl, rfl, rfl, rfl, rfl, rfl, rfl, rfl, rfl, rfl,
    fun _ _ hin => ⟨[], [], step_of_reset hin⟩⟩

end Sys2Proof.Machine
end

section
/-! The eight read operations (20_memory.md R65), and that a sound state always steps (R62, 93_implementation_defined.md
part A). -/

namespace Sys2Proof.Machine

open Sys2Proof

/-! ### The read operations -/

/-- The answer of a read does not depend on the responses given before it, and it alone is added to them. -/
theorem exec_onlyReads {i : Instr} {s t : State} (hi : onlyReads i = true) (hx : exec i s = .next t) :
    ∃ r, ∀ l, exec i { s with responses := l } = .next { s with responses := l ++ [r] } := by
  have bytes {a : Except Fault (List Byte)} (h : answerBytes s a = .next t) :
      ∃ r, ∀ l, answerBytes { s with responses := l } a = .next { s with responses := l ++ [r] } := by
    obtain ⟨bs, hbs, -⟩ := answerBytes_next.mp h
    exact ⟨_, fun l => answerBytes_next.mpr ⟨bs, hbs, rfl⟩⟩
  cases i with
  | crc32Read => exact ⟨Status.ok.code :: le32 (s.crc32 ^^^ crc32Ones), fun _ => rfl⟩
  | crc16Read => exact ⟨Status.ok.code :: le16 s.crc16, fun _ => rfl⟩
  | xactStatus => exact ⟨Status.ok.code :: statusAnswer s, fun _ => rfl⟩
  | frameRead | xactReadRx => exact bytes hx
  | parse d =>
    by_cases hlong : s.params.rxCap.toNat < d.length
    · exact ⟨_, fun _ => if_pos hlong⟩
    · exact ⟨_, fun _ => if_neg hlong⟩
  | xactReadFrame =>
    by_cases hframe : s.outcome.hasFrame = true
    · obtain ⟨r, hr⟩ := bytes ((if_pos hframe).symm.trans hx)
      exact ⟨r, fun l => (if_pos hframe).trans (hr l)⟩
    · exact ⟨_, fun _ => if_neg hframe⟩
  | cfgRead idx =>
    have hsame (l) : configValue idx { s with responses := l } = configValue idx s := rfl
    cases hv : configValue idx s with
    | some v => exact ⟨_, fun l => by simp only [exec, execCfgRead, hsame, hv]; rfl⟩
    | none => exact ⟨_, fun l => by simp only [exec, execCfgRead, hsame, hv]; rfl⟩
  | _ => cases hi

/-- Settles O58: the answer given in `s` is the answer with `s`'s responses and with one more. -/
theorem readsChangeNothing : Obligations.ReadsChangeNothing := by
  intro s t i hi hx
  obtain ⟨r, hr⟩ := exec_onlyReads hi hx
  obtain rfl : t = { s with responses := s.responses ++ [r] } := Host.Outcome.next.inj (hx.symm.trans (hr s.responses))
  exact ⟨r, rfl, hr _⟩

/-! ### What can be read and stored in a buffer that is as it should be -/

/-- The valid bytes of a buffer can be read (20_memory.md R62). -/
theorem BufferOk.exists_bytes {m : Memory} {len cap : Half} (h : BufferOk m len cap) {n : Nat} (hn : n ≤ len.toNat) :
    ∃ bs, bufReadN len m 0 n = .ok bs :=
  bufReadN_total (by omega) h.covers

theorem storeFrame_next (f : List Byte) (s : State) : ∃ t, storeFrame f s = .next t := by
  rcases Nat.lt_or_ge s.params.txCap.toNat f.length with hlong | hfits
  · exact ⟨_, storeFrame_tooLong hlong⟩
  · obtain ⟨m, hm, -⟩ := storeFrame_fits hfits
    exact ⟨_, hm⟩

theorem answerBytes_of_ok {s : State} {a : Except Fault (List Byte)} (h : ∃ bs, a = .ok bs) :
    ∃ t, answerBytes s a = .next t := by
  obtain ⟨bs, rfl⟩ := h
  exact ⟨_, rfl⟩

theorem acceptCommand_next (cmd result : Byte) (s : State) : ∃ t, acceptCommand cmd result s = .next t := by
  by_cases hw : s.cstate = .waiting
  · exact ⟨_, acceptCommand_waiting cmd result hw⟩
  · exact ⟨_, acceptCommand_other cmd result hw⟩

/-- `Desync(S)` reads three bytes, and only where three are stored (42_correlator.md R228). -/
theorem State.desync_ok {s : State} (h : BufferOk s.rxBuf s.rxLen s.params.rxCap) : ∃ fired, s.desync = .ok fired := by
  unfold State.desync
  split
  · next hc =>
    obtain ⟨-, hthree, -⟩ := hc
    obtain ⟨bs, hbs⟩ := h.exists_bytes hthree
    simp only [hbs]
    exact ⟨_, rfl⟩
  · exact ⟨_, rfl⟩

/-! ### Every instruction and every event reaches a next state from a sound one -/

namespace State.Inv

variable {s : State}

theorem frameBytes_ok (h : s.Inv) : ∃ f, s.frameBytes = .ok f := h.frame.exists_bytes (Nat.le_refl _)

theorem rxBytes_ok (h : s.Inv) : ∃ bs, s.rxBytes = .ok bs := h.rx.exists_bytes (Nat.le_refl _)

/-- After an outcome that has a frame the parse is "always COMPLETE here" (42_correlator.md R225). -/
theorem rxFrame_ok (h : s.Inv) (hf : s.outcome.hasFrame = true) : ∃ f, s.rxFrame = .ok f := by
  obtain ⟨bs, hbs, -, hframe, -, -⟩ := h.received
  obtain ⟨⟨hd, len, hp⟩, -⟩ := hframe hf
  exact ⟨slice bs hd (len + 7), by simp only [State.rxFrame, hbs, hp]⟩

theorem exec_next (h : s.Inv) (i : Instr) : ∃ t, Machine.exec i s = .next t := by
  cases i with
  | crc32Init | crc32Update | crc32Feed | crc32Read | crc16Init | crc16Update | crc16Feed | crc16Read | xactStatus =>
    exact ⟨_, rfl⟩
  | encReset | encErase | encProgram | encReadHeader | encReadUuid | frameLoad => exact storeFrame_next _ s
  | frameRead => exact answerBytes_of_ok h.frameBytes_ok
  | xactReadRx => exact answerBytes_of_ok h.rxBytes_ok
  | parse d =>
    simp only [Machine.exec, execParse]
    split <;> exact ⟨_, rfl⟩
  | xactStart w =>
    obtain ⟨f, hf⟩ := h.frameBytes_ok
    simp only [Machine.exec, execXactStart, hf]
    split
    · exact ⟨_, rfl⟩
    · split <;> exact ⟨_, rfl⟩
  | xactReadFrame =>
    simp only [Machine.exec, execXactReadFrame]
    split
    · next hf => exact answerBytes_of_ok (h.rxFrame_ok hf)
    · exact ⟨_, rfl⟩
  | cfgRead idx =>
    simp only [Machine.exec, execCfgRead]
    split <;> exact ⟨_, rfl⟩
  | cfgWrite idx v =>
    simp only [Machine.exec, execCfgWrite]
    split <;> exact ⟨_, rfl⟩
  | wireReset | wireErase | wireProgram | wireReadHeader | wireReadUuid => exact acceptCommand_next _ _ s

/-- RX_BYTE: a buffer that is not full has room for the byte, and its valid bytes can still be read. -/
theorem rxByte_next (h : s.Inv) (b : Byte) : ∃ t, runFetched (fetchByte b s) = .next t := by
  unfold fetchByte
  split
  · next hw =>
    split
    · exact ⟨_, rfl⟩
    · next hroom =>
      have hlt : s.rxLen.toNat < s.params.rxCap.toNat :=
        Nat.lt_of_le_of_ne h.rx.lenLe fun he => hroom (BitVec.eq_of_toNat_eq he)
      have hstore : s.storeByte b = .ok (s.countByte.setRx (s.rxBuf.write s.rxLen.toNat b) (s.rxLen + 1)) := by
        simp only [State.storeByte, bufWrite_of_lt b hlt]
      obtain ⟨bs, hbs⟩ : ∃ bs, (s.countByte.setRx (s.rxBuf.write s.rxLen.toNat b) (s.rxLen + 1)).rxBytes = .ok bs :=
        (h.rx.push b hlt).exists_bytes (Nat.le_refl _)
      simp only [hstore, hbs]
      exact ⟨_, runFetched_classify hw⟩
  · exact ⟨_, rfl⟩

/-- TICK: what it may read of the receive buffer is there. -/
theorem tick_ok (h : s.Inv) : ∃ t, s.tick = .ok t := by
  unfold State.tick
  split
  · unfold State.expire
    split
    · exact ⟨_, rfl⟩
    · obtain ⟨fired, hfired⟩ := State.desync_ok (s := s.countTick) h.rx
      simp only [hfired]
      cases fired <;> exact ⟨_, rfl⟩
  · exact ⟨_, rfl⟩

end State.Inv

/-- Settles O57, by what the next input is. -/
theorem soundStateAlwaysSteps : Obligations.SoundStateAlwaysSteps := by
  intro s h
  unfold step fetch
  split
  · exact ⟨_, rfl⟩
  · next q rest _ =>
    unfold fetchRequest
    split
    · next i _ => exact (h.withInputs rest).exec_next i
    · exact ⟨_, rfl⟩
  · next b rest _ => exact (h.withInputs rest).rxByte_next b
  · next rest _ =>
    obtain ⟨t, ht⟩ := (h.withInputs rest).tick_ok
    exact ⟨t, by rw [ht]; rfl⟩
  · exact ⟨_, rfl⟩

end Sys2Proof.Machine
end

section
/-! The encodings (30_encoding.md): decoding gives back what was encoded, and an accepted request is an encoding. -/

namespace Sys2Proof

/-! ### A host operation is read back from its encoding (R82, R84, R85) -/

theorem rd32_le32_cons (opc : Byte) (a : Word) : rd32 (opc :: le32 a) 1 = a := by
  simpa using rd32_f4n opc a []

/-- An address and a data string, as ENC_PROGRAM counts it. -/
theorem decodeRequest_encProgram (a : Word) {d : List Byte} (hd : d.length ≤ 65535) :
    decodeRequest (encode (.encProgram a d)) = .ok (.encProgram a d) := by
  have hlen : (0x12 :: (le32 a ++ counted d)).length = Format.requestLength .f4n (0x12 :: (le32 a ++ counted d)) := by
    simp only [Format.requestLength, rd16_f4n, lenHalf_toNat hd, List.length_cons, List.length_append, le32_length,
      counted_length]
    omega
  calc decodeRequest (0x12 :: (le32 a ++ counted d))
    _ = .ok (.encProgram (rd32 (0x12 :: (le32 a ++ counted d)) 1) (dataF4N (0x12 :: (le32 a ++ counted d)))) :=
      decodeRequest_accepts rfl hlen
    _ = .ok (.encProgram a d) := by rw [rd32_f4n, dataF4N_counted _ _ _ hd]

theorem decodeRequest_encode {i : Instr} (hspace : i.space = .host) (hwf : i.wellFormed = true) :
    decodeRequest (encode i) = .ok i := by
  cases i with
  | crc32Init | crc32Read | crc16Init | crc16Read | encReset | encReadUuid | frameRead | xactStatus | xactReadRx
  | xactReadFrame => rfl
  | crc32Update | crc16Update | cfgRead => rfl
  | crc32Feed d | crc16Feed d | frameLoad d | parse d => exact decodeRequest_counted rfl (of_decide_eq_true hwf)
  | encProgram a d => exact decodeRequest_encProgram a (of_decide_eq_true hwf)
  | encErase a c =>
    calc decodeRequest (encode (.encErase a c))
      _ = .ok (.encErase (rd32 (0x11 :: (le32 a ++ [c])) 1) c) := rfl
      _ = .ok (.encErase a c) := by rw [rd32_f4n]
  | encReadHeader a =>
    calc decodeRequest (encode (.encReadHeader a))
      _ = .ok (.encReadHeader (rd32 (0x13 :: le32 a) 1)) := rfl
      _ = .ok (.encReadHeader a) := by rw [rd32_le32_cons]
  | xactStart t =>
    calc decodeRequest (encode (.xactStart t))
      _ = .ok (.xactStart (rd32 (0x20 :: le32 t) 1)) := rfl
      _ = .ok (.xactStart t) := by rw [rd32_le32_cons]
  | cfgWrite idx v =>
    calc decodeRequest (encode (.cfgWrite idx v))
      _ = .ok (.cfgWrite idx (rd32 (0x31 :: idx :: le32 v) 2)) := rfl
      _ = .ok (.cfgWrite idx v) := by rw [rd32_cons_succ, rd32_le32_cons]
  | wireReset | wireErase | wireProgram | wireReadHeader | wireReadUuid => cases hspace

/-! ### A wire command is read back from its frame (R88, R90, R91) -/

section

open Machine

variable (cmd result reserved : Byte) (data : List Byte)

/-- The DCS makes the byte sum of payload and DCS 0 (41_frame_codec.md R161). -/
theorem byteSum_add_dcs (p : List Byte) : byteSum p + dcs p = 0 := by
  simp [dcs]

/-- A built frame passes the three checks of R175, and its bytes 13 and 14 are reported (41_frame_codec.md R176). -/
theorem validate_wireFrame :
    validate (wireFrame cmd result reserved data) 0 (16 + data.length) = .complete 0 (16 + data.length) cmd result := by
  have hlen : ¬ 16 + data.length < 16 := by omega
  simp only [validate, Nat.zero_add, slice_wireFrame, dcs_wireFrame, terminator_wireFrame, byteSum_add_dcs, hlen,
    ne_eq, not_true_eq_false, if_false]
  rfl

theorem parseFrame_wireFrame (h : data.length ≤ 65519) :
    parseFrame (wireFrame cmd result reserved data) = .complete 0 (16 + data.length) cmd result := by
  have hlen : (wireFrame cmd result reserved data).length = 23 + data.length := wireFrame_length ..
  have hheader : ¬ (wireFrame cmd result reserved data).length < 0 + 5 := by omega
  have hbody : ¬ (wireFrame cmd result reserved data).length < 0 + 7 + (16 + data.length) := by omega
  simp only [parseFrame, findHeader_wireFrame, if_neg hheader, Nat.zero_add 3, rd16_wireFrame _ _ _ _ h, if_neg hbody,
    validate_wireFrame]

/-- The operands are payload byte 14, payload byte 15 and the payload from byte 16 on. -/
theorem wireInstr_wireFrame :
    wireInstr (wireFrame cmd result reserved data) 0 (16 + data.length) cmd result =
      (wireRow cmd).map fun mk => mk result reserved data := by
  simp only [wireInstr, Nat.zero_add, slice_wireFrame]
  rfl

theorem decodeFrame_wireFrame {mk : Byte → Byte → List Byte → Instr} (hrow : wireRow cmd = some mk)
    (hdata : payloadFits data = true) :
    decodeFrame (wireFrame cmd result reserved data) = .ok (mk result reserved data) := by
  have hfits : 16 + data.length ≤ 65535 := of_decide_eq_true hdata
  simp only [decodeFrame, parseFrame_wireFrame _ _ _ _ (show data.length ≤ 65519 by omega), wireInstr_wireFrame, hrow,
    Option.map_some]

end

/-! ### Both spaces -/

theorem decode_host_of_ok {q : List Byte} {i : Instr} (h : decodeRequest q = .ok i) : decode .host q = .ok i := by
  simp only [decode, h]

/-- Settles O1: a host operation is read back from its request, a wire command from its frame. -/
theorem decodeOfEncodeIsTheInstruction : Obligations.DecodeOfEncodeIsTheInstruction := by
  intro i hwf
  cases hspace : i.space with
  | host => exact decode_host_of_ok (decodeRequest_encode hspace hwf)
  | wire =>
    cases i with
    | wireReset | wireErase | wireProgram | wireReadHeader | wireReadUuid =>
      exact decodeFrame_wireFrame _ _ _ _ rfl hwf
    | _ => cases hspace

/-! ### An accepted request is an encoding (R82, R83) -/

theorem le16_append (hi lo : Byte) : le16 (hi ++ lo) = [lo, hi] := by
  have hlo : (hi ++ lo).extractLsb' 0 8 = lo := BitVec.extractLsb'_append_eq_right
  have hhi : (hi ++ lo).extractLsb' 8 8 = hi := BitVec.extractLsb'_append_eq_left
  simp only [le16, List.cons.injEq, and_true]
  exact ⟨hlo, hhi⟩

theorem le32_append (hi lo : Half) : le32 (hi ++ lo) = le16 lo ++ le16 hi := by
  have hlo {i : Nat} (h : i + 8 ≤ 16) : (hi ++ lo).extractLsb' i 8 = lo.extractLsb' i 8 :=
    BitVec.extractLsb'_append_eq_of_add_le h
  have hhi {i : Nat} (h : 16 ≤ i) : (hi ++ lo).extractLsb' i 8 = hi.extractLsb' (i - 16) 8 :=
    BitVec.extractLsb'_append_eq_of_le h
  simp only [le32, le16, List.cons_append, List.nil_append, List.cons.injEq, and_true]
  exact ⟨hlo (by decide), hlo (by decide), hhi (by decide), hhi (by decide)⟩

/-- Any two bytes are a u16. -/
theorem exists_le16_append {s : List Byte} (h : 2 ≤ s.length) : ∃ v t, s = le16 v ++ t := by
  match s, h with
  | b0 :: b1 :: t, _ => exact ⟨b1 ++ b0, t, by rw [le16_append]; rfl⟩

/-- Any four bytes are a u32. -/
theorem exists_le32_append {s : List Byte} (h : 4 ≤ s.length) : ∃ w t, s = le32 w ++ t := by
  obtain ⟨lo, s', rfl⟩ := exists_le16_append (s := s) (by omega)
  obtain ⟨hi, t, rfl⟩ := exists_le16_append (s := s') (by simp at h; omega)
  exact ⟨hi ++ lo, t, by rw [le32_append, List.append_assoc]⟩

/-- A string whose u16 count agrees with what follows it is counted data (R82, R83). -/
theorem exists_counted {s : List Byte} (h : s.length = 2 + (rd16 s 0).toNat) :
    ∃ d, countFits d = true ∧ s = counted d := by
  obtain ⟨n, d, rfl⟩ := exists_le16_append (s := s) (by omega)
  have hn : d.length = n.toNat := by
    rw [rd16_le16] at h
    simp only [List.length_append, le16_length] at h
    omega
  have hlen : lenHalf d.length = n := by rw [lenHalf, hn, BitVec.ofNat_toNat, BitVec.setWidth_eq]
  exact ⟨d, by simp only [countFits, decide_eq_true_eq]; omega, by rw [counted, hlen]⟩

/-- The operand bytes a format lays out after the opcode (R82), with a count that is a u16. -/
inductive Format.Operands : Format → List Byte → Prop where
  | f0 : Operands .f0 []
  | f1 (b : Byte) : Operands .f1 [b]
  | f4 (w : Word) : Operands .f4 (le32 w)
  | f4b (a : Word) (c : Byte) : Operands .f4b (le32 a ++ [c])
  | f4n (a : Word) (d : List Byte) (hd : countFits d = true) : Operands .f4n (le32 a ++ counted d)
  | fn (d : List Byte) (hd : countFits d = true) : Operands .fn (counted d)
  | f1w (i : Byte) (v : Word) : Operands .f1w (i :: le32 v)

/-- The length rule leaves no other bytes than a format's operands (R83). -/
theorem Format.operands_of_length {f : Format} {opc : Byte} {args : List Byte}
    (h : (opc :: args).length = f.requestLength (opc :: args)) : f.Operands args := by
  rw [List.length_cons] at h
  cases f with
  | f0 =>
    obtain rfl : args = [] := List.length_eq_zero_iff.mp (Nat.succ.inj h)
    exact .f0
  | f1 =>
    obtain ⟨b, rfl⟩ := List.length_eq_one_iff.mp (Nat.succ.inj h)
    exact .f1 b
  | f4 =>
    have hl : args.length = 4 := Nat.succ.inj h
    obtain ⟨w, t, rfl⟩ := exists_le32_append (s := args) (by omega)
    obtain rfl : t = [] := by simpa using hl
    rw [List.append_nil]
    exact .f4 w
  | f4b =>
    have hl : args.length = 5 := Nat.succ.inj h
    obtain ⟨a, t, rfl⟩ := exists_le32_append (s := args) (by omega)
    obtain ⟨c, rfl⟩ := List.length_eq_one_iff.mp (by simp at hl; omega : t.length = 1)
    exact .f4b a c
  | f4n =>
    simp only [requestLength] at h
    obtain ⟨a, t, rfl⟩ := exists_le32_append (s := args) (by omega)
    have hcount : rd16 (opc :: (le32 a ++ t)) 5 = rd16 t 0 := rfl
    rw [hcount, List.length_append, le32_length] at h
    obtain ⟨d, hd, rfl⟩ := exists_counted (s := t) (by omega)
    exact .f4n a d hd
  | fn =>
    simp only [requestLength, rd16_cons_succ] at h
    obtain ⟨d, hd, rfl⟩ := exists_counted (s := args) (by omega)
    exact .fn d hd
  | f1w =>
    have hl : args.length = 5 := Nat.succ.inj h
    obtain ⟨i, t, rfl⟩ := List.exists_cons_of_length_eq_add_one hl
    obtain ⟨v, u, rfl⟩ := exists_le32_append (s := t) (by simp at hl; omega)
    obtain rfl : u = [] := by simpa using hl
    rw [List.append_nil]
    exact .f1w i v

/-- Every opcode of the map with operands of its format is the encoding of a well-formed host operation (R85, R95). -/
theorem exists_encode_of_operands {opc : Byte} {args : List Byte} {f : Format} {mk : List Byte → Instr}
    (hrow : hostRow opc = some (f, mk)) (hargs : f.Operands args) :
    ∃ i : Instr, i.wellFormed = true ∧ i.space = .host ∧ encode i = opc :: args := by
  unfold hostRow at hrow
  split at hrow <;> cases hrow <;> cases hargs
  exacts [⟨.crc32Init, rfl, rfl, rfl⟩, ⟨.crc32Update _, rfl, rfl, rfl⟩, ⟨.crc32Feed _, ‹_›, rfl, rfl⟩,
    ⟨.crc32Read, rfl, rfl, rfl⟩, ⟨.crc16Init, rfl, rfl, rfl⟩, ⟨.crc16Update _, rfl, rfl, rfl⟩,
    ⟨.crc16Feed _, ‹_›, rfl, rfl⟩, ⟨.crc16Read, rfl, rfl, rfl⟩, ⟨.encReset, rfl, rfl, rfl⟩,
    ⟨.encErase _ _, rfl, rfl, rfl⟩, ⟨.encProgram _ _, ‹_›, rfl, rfl⟩, ⟨.encReadHeader _, rfl, rfl, rfl⟩,
    ⟨.encReadUuid, rfl, rfl, rfl⟩, ⟨.frameLoad _, ‹_›, rfl, rfl⟩, ⟨.frameRead, rfl, rfl, rfl⟩,
    ⟨.parse _, ‹_›, rfl, rfl⟩, ⟨.xactStart _, rfl, rfl, rfl⟩, ⟨.xactStatus, rfl, rfl, rfl⟩,
    ⟨.xactReadRx, rfl, rfl, rfl⟩, ⟨.xactReadFrame, rfl, rfl, rfl⟩, ⟨.cfgRead _, rfl, rfl, rfl⟩,
    ⟨.cfgWrite _ _, rfl, rfl, rfl⟩]

/-- Settles O2: the accepted request is the encoding of some well-formed host operation, which is the one it is read
back as. -/
theorem decodedRequestIsItsEncoding : Obligations.DecodedRequestIsItsEncoding := by
  intro q i hd
  obtain ⟨opc, args, f, mk, rfl, hrow, hlen, -⟩ := decodeRequest_ok hd
  obtain ⟨j, hwf, hspace, henc⟩ := exists_encode_of_operands hrow (Format.operands_of_length hlen)
  have hj : decodeRequest (opc :: args) = .ok j := henc ▸ decodeRequest_encode hspace hwf
  obtain rfl : i = j := Except.ok.inj (hd.symm.trans hj)
  exact ⟨hwf, hspace, henc⟩

/-! ### Bytes written out in the spec -/

/-- Settles O3: each string is decoded by evaluation. -/
theorem specBytesDecode : Obligations.SpecBytesDecode :=
  ⟨rfl, rfl, rfl, rfl, rfl, rfl, rfl⟩

end Sys2Proof
end

section
/-! Requests that are refused before any operation runs (30_encoding.md R83, R86), and the one response every request
gets (R80, R81). -/

namespace Sys2Proof

/-! ### Illegal opcodes (R86) -/

/-- The opcodes of R86. -/
def IllegalOpcode (opc : Byte) : Prop :=
  opc.toNat = 0 ∨ (0x09 ≤ opc.toNat ∧ opc.toNat ≤ 0x0F) ∨ (0x18 ≤ opc.toNat ∧ opc.toNat ≤ 0x1F) ∨
    (0x24 ≤ opc.toNat ∧ opc.toNat ≤ 0x2F) ∨ 0x32 ≤ opc.toNat

/-- The opcode map has a row for exactly the other opcodes (R85). -/
theorem hostRow_eq_none_iff (opc : Byte) : hostRow opc = none ↔ IllegalOpcode opc := by
  unfold hostRow IllegalOpcode
  split
  case h_23 =>
    simp only [imp_false, ← ne_eq, BitVec.toNat_ne, BitVec.toNat_ofNat] at *
    simp only [true_iff]
    omega
  all_goals simp

theorem decodeRequest_illegalOp_iff {opc : Byte} {args : List Byte} :
    decodeRequest (opc :: args) = .error .illegalOp ↔ hostRow opc = none := by
  refine ⟨fun h => ?_, fun h => decodeRequest_illegal h args⟩
  match hrow : hostRow opc with
  | none => rfl
  | some (f, mk) =>
    by_cases hlen : (opc :: args).length = f.requestLength (opc :: args)
    · rw [decodeRequest_accepts hrow hlen] at h
      cases h
    · rw [decodeRequest_wrongLength hrow hlen] at h
      cases h

/-! ### Wrong lengths (R83) -/

/-- The opcodes of a format (R85). -/
def Format.opcodes : Format → List Byte
  | .f0 => [0x01, 0x04, 0x05, 0x08, 0x10, 0x14, 0x16, 0x21, 0x22, 0x23]
  | .f1 => [0x02, 0x06, 0x30]
  | .f4 => [0x13, 0x20]
  | .f4b => [0x11]
  | .f4n => [0x12]
  | .fn => [0x03, 0x07, 0x15, 0x17]
  | .f1w => [0x31]

theorem hostRow_format_of_mem {f : Format} {opc : Byte} (h : opc ∈ f.opcodes) :
    (hostRow opc).map Prod.fst = some f := by
  have hall : ∀ opc ∈ f.opcodes, (hostRow opc).map Prod.fst = some f := by cases f <;> decide
  exact hall opc h

theorem decodeRequest_badLength_of_mem {f : Format} {opc : Byte} {args : List Byte} (h : opc ∈ f.opcodes)
    (hlen : (opc :: args).length ≠ f.requestLength (opc :: args)) :
    decodeRequest (opc :: args) = .error .badLength := by
  obtain ⟨⟨f, mk⟩, hrow, rfl⟩ := Option.map_eq_some_iff.mp (hostRow_format_of_mem h)
  exact decodeRequest_wrongLength hrow hlen

end Sys2Proof

namespace Sys2Proof.Machine

open Sys2Proof

/-! ### The step on a refused request -/

theorem fetchRequest_of_error {q : List Byte} {st : Status} (hd : decodeRequest q = .error st) (s : State) :
    fetchRequest q s = .done (s.fail st) := by
  simp only [fetchRequest, hd]

/-- A request that does not decode takes its status and changes nothing else (60_exceptions.md R301). -/
theorem step_of_refusedRequest {s : State} {q : List Byte} {rest : List Input} {st : Status}
    (hin : s.inputs = .request q :: rest) (hd : decodeRequest q = .error st) :
    step s = .next ((s.withInputs rest).fail st) := by
  rw [step_of_request hin, fetchRequest_of_error hd, runFetched]

/-- Settles O4: the opcode map has no row for exactly the opcodes of R86. -/
theorem illegalOpcodesAreRefused : Obligations.IllegalOpcodesAreRefused := by
  intro opc args
  have hiff : decodeRequest (opc :: args) = .error .illegalOp ↔ IllegalOpcode opc :=
    decodeRequest_illegalOp_iff.trans (hostRow_eq_none_iff opc)
  exact ⟨hiff, fun hillegal s rest hin => step_of_refusedRequest hin (hiff.mpr hillegal)⟩

/-- Settles O5: the lengths format by format; that an opcode is illegal does not depend on what follows it. -/
theorem wrongLengthIsRefused : Obligations.WrongLengthIsRefused := by
  refine ⟨?lengths, rfl, fun s q rest hin hd => step_of_refusedRequest hin hd, ?illegal⟩
  case lengths =>
    rintro opc args q (⟨h, hlen⟩ | ⟨h, hlen⟩ | ⟨h, hlen⟩ | ⟨rfl, hlen⟩ | ⟨rfl, hlen⟩ | ⟨h, hlen⟩ | ⟨rfl, hlen⟩)
    · exact decodeRequest_badLength_of_mem (f := .f0) h hlen
    · exact decodeRequest_badLength_of_mem (f := .f1) h hlen
    · exact decodeRequest_badLength_of_mem (f := .f4) h hlen
    · exact decodeRequest_badLength_of_mem (f := .f4b) (List.mem_singleton.mpr rfl) hlen
    · exact decodeRequest_badLength_of_mem (f := .f4n) (List.mem_singleton.mpr rfl) hlen
    · exact decodeRequest_badLength_of_mem (f := .fn) h hlen
    · exact decodeRequest_badLength_of_mem (f := .f1w) (List.mem_singleton.mpr rfl) hlen
  case illegal =>
    exact fun opc args args' h => decodeRequest_illegal (decodeRequest_illegalOp_iff.mp h) args'

/-! ### One response for every request (R81) -/

/-- From `s` to `t` one response has been given: a refusal, which changes nothing else, or OK with results, in a state
that has taken no further input. -/
def AnsweredOnce (s t : State) : Prop :=
  (∃ st, t = s.fail st) ∨
    ∃ (u : State) (bytes : List Byte), u.inputs = s.inputs ∧ u.responses = s.responses ∧ t = u.respond bytes

theorem answeredOnce_fail (s : State) (st : Status) : AnsweredOnce s (s.fail st) := .inl ⟨st, rfl⟩

theorem answeredOnce_respond {s u : State} (bytes : List Byte) (hinputs : u.inputs = s.inputs)
    (hresponses : u.responses = s.responses) : AnsweredOnce s (u.respond bytes) :=
  .inr ⟨u, bytes, hinputs, hresponses, rfl⟩

theorem storeFrame_answeredOnce {f : List Byte} {s t : State} (h : storeFrame f s = .next t) : AnsweredOnce s t := by
  rcases storeFrame_cases h with ⟨-, rfl⟩ | ⟨-, m, rfl, -⟩
  · exact answeredOnce_fail s _
  · exact answeredOnce_respond _ rfl rfl

theorem answerBytes_answeredOnce {r : Except Fault (List Byte)} {s t : State} (h : answerBytes s r = .next t) :
    AnsweredOnce s t := by
  obtain ⟨bs, -, rfl⟩ := answerBytes_next.mp h
  exact answeredOnce_respond _ rfl rfl

theorem execXactStart_answeredOnce {w : Word} {s t : State} (h : execXactStart w s = .next t) : AnsweredOnce s t := by
  rcases execXactStart_cases h with ⟨-, rfl⟩ | ⟨-, -, rfl⟩ | ⟨-, -, f, -, rfl⟩
  · exact answeredOnce_fail s _
  · exact answeredOnce_fail s _
  · exact answeredOnce_respond _ rfl rfl

theorem configWrite_answeredOnce {idx : Byte} {v : Word} {s u : State} (h : configWrite idx v s = some u) :
    AnsweredOnce s (u.respond []) := by
  rcases configWrite_cases h with ⟨-, -, rfl⟩ | ⟨-, -, rfl⟩ | ⟨-, rfl⟩ <;> exact answeredOnce_respond _ rfl rfl

/-- Every host operation answers once. A wire command gives no response. -/
theorem exec_answeredOnce {i : Instr} {s t : State} (hi : i.space = .host) (h : exec i s = .next t) :
    AnsweredOnce s t := by
  cases i with
  | crc32Init | crc32Update | crc32Feed | crc32Read | crc16Init | crc16Update | crc16Feed | crc16Read | xactStatus =>
    cases h
    exact answeredOnce_respond _ rfl rfl
  | encReset | encErase | encProgram | encReadHeader | encReadUuid | frameLoad => exact storeFrame_answeredOnce h
  | frameRead | xactReadRx => exact answerBytes_answeredOnce h
  | parse d =>
    simp only [exec, execParse] at h
    split at h <;> cases h
    · exact answeredOnce_fail s _
    · exact answeredOnce_respond _ rfl rfl
  | xactStart w => exact execXactStart_answeredOnce h
  | xactReadFrame =>
    simp only [exec, execXactReadFrame] at h
    split at h
    · exact answerBytes_answeredOnce h
    · cases h
      exact answeredOnce_fail s _
  | cfgRead idx =>
    simp only [exec, execCfgRead] at h
    split at h <;> cases h
    · exact answeredOnce_respond _ rfl rfl
    · exact answeredOnce_fail s _
  | cfgWrite idx v =>
    simp only [exec, execCfgWrite] at h
    split at h <;> cases h
    · next hu => exact configWrite_answeredOnce hu
    · exact answeredOnce_fail s _
  | wireReset | wireErase | wireProgram | wireReadHeader | wireReadUuid => cases hi

/-- So does every request, also one that does not decode. -/
theorem step_request_answeredOnce {s t : State} {q : List Byte} {rest : List Input}
    (hin : s.inputs = .request q :: rest) (h : step s = .next t) : AnsweredOnce (s.withInputs rest) t := by
  cases hd : decodeRequest q with
  | error st =>
    rw [step_of_refusedRequest hin hd] at h
    cases h
    exact answeredOnce_fail _ st
  | ok i =>
    rw [step_of_request hin, fetchRequest_of_ok hd] at h
    exact exec_answeredOnce (decodeRequest_space hd) h

theorem status_code_le (st : Status) : st.code.toNat ≤ 5 := by
  cases st <;> decide

/-- Settles O10: a sound state steps, and a step on a request answers once. -/
theorem everyRequestIsAnsweredOnce : Obligations.EveryRequestIsAnsweredOnce := by
  intro s q rest hinv hin
  obtain ⟨t, ht⟩ := soundStateAlwaysSteps s hinv
  rcases step_request_answeredOnce hin ht with ⟨st, rfl⟩ | ⟨u, bytes, hinputs, hresponses, rfl⟩
  · exact ⟨_, [st.code], ht, rfl, rfl, st.code, rfl, status_code_le st⟩
  · exact ⟨_, Status.ok.code :: bytes, ht, hinputs, by rw [State.respond_responses, hresponses]; rfl,
      Status.ok.code, rfl, status_code_le .ok⟩

/-! ### No instruction without a meaning -/

theorem answerBytes_ne_refused (s : State) (a : Except Fault (List Byte)) (r : Refusal) :
    answerBytes s a ≠ .refused r := by
  cases a <;> exact nofun

/-- Settles O60: every arm of exec ends in a next state or a fault. -/
theorem everyInstructionIsModelled : Obligations.EveryInstructionIsModelled := by
  intro i s r
  cases i with
  | crc32Init | crc32Update | crc32Feed | crc32Read | crc16Init | crc16Update | crc16Feed | crc16Read | xactStatus =>
    exact nofun
  | encReset | encErase | encProgram | encReadHeader | encReadUuid | frameLoad =>
    intro h
    obtain ⟨t, ht⟩ := storeFrame_next _ s
    cases ht.symm.trans h
  | wireReset | wireErase | wireProgram | wireReadHeader | wireReadUuid =>
    intro h
    obtain ⟨t, ht⟩ := acceptCommand_next _ _ s
    cases ht.symm.trans h
  | frameRead | xactReadRx => exact answerBytes_ne_refused s _ r
  | parse d =>
    simp only [exec, execParse]
    split <;> exact nofun
  | xactStart w =>
    simp only [exec, execXactStart]
    split
    · exact nofun
    · split
      · exact nofun
      · split <;> exact nofun
  | xactReadFrame =>
    simp only [exec, execXactReadFrame]
    split
    · exact answerBytes_ne_refused s _ r
    · exact nofun
  | cfgRead idx =>
    simp only [exec, execCfgRead]
    split <;> exact nofun
  | cfgWrite idx v =>
    simp only [exec, execCfgWrite]
    split <;> exact nofun

end Sys2Proof.Machine
end

section
/-! The CRC generators (40_crc.md): each operation's encoding and effect, and the CRC of a string fed in pieces. -/

namespace Sys2Proof

/-! ### Requests of another length than the format's, by the bytes after the opcode (R82, R83) -/

section

variable {opc : Byte} {args : List Byte} {mk : List Byte → Instr}

theorem decodeRequest_f0_badLength (hrow : hostRow opc = some (.f0, mk)) (hargs : args ≠ []) :
    decodeRequest (opc :: args) = .error .badLength :=
  decodeRequest_wrongLength hrow (by simpa [Format.requestLength] using hargs)

theorem decodeRequest_f1_badLength (hrow : hostRow opc = some (.f1, mk)) (hargs : args.length ≠ 1) :
    decodeRequest (opc :: args) = .error .badLength :=
  decodeRequest_wrongLength hrow (by simpa [Format.requestLength] using hargs)

theorem decodeRequest_fn_badLength (hrow : hostRow opc = some (.fn, mk))
    (hargs : args.length ≠ 2 + (rd16 args 0).toNat) : decodeRequest (opc :: args) = .error .badLength := by
  refine decodeRequest_wrongLength hrow ?_
  rw [List.length_cons, Format.requestLength, rd16_cons_succ]
  omega

end

end Sys2Proof

namespace Sys2Proof.Machine

open Sys2Proof

/-! ### The state with one CRC register and the responses replaced -/

/-- Everything but the CRC-32 register and the responses is that of `s`. -/
def State.withCrc32 (s : State) (c : Word) (responses : List (List Byte)) : State :=
  { s with crc32 := c, responses := responses }

@[simp] theorem State.withCrc32_crc32 (s : State) (c : Word) (responses : List (List Byte)) :
    (s.withCrc32 c responses).crc32 = c := rfl

/-- Everything but the CRC-16 register and the responses is that of `s`. -/
def State.withCrc16 (s : State) (c : Half) (responses : List (List Byte)) : State :=
  { s with crc16 := c, responses := responses }

@[simp] theorem State.withCrc16_crc16 (s : State) (c : Half) (responses : List (List Byte)) :
    (s.withCrc16 c responses).crc16 = c := rfl

/-! ### What each operation does (R126 to R133) -/

section

variable (s : State) (d : List Byte)

theorem exec_crc32Init : exec .crc32Init s = .next (s.withCrc32 0xFFFFFFFF (s.responses ++ [[0x00]])) := rfl

theorem exec_crc32Update (b : Byte) :
    exec (.crc32Update b) s = .next (s.withCrc32 (crc32Step s.crc32 b) (s.responses ++ [[0x00]])) := rfl

theorem exec_crc32Feed :
    exec (.crc32Feed d) s = .next (s.withCrc32 (d.foldl crc32Step s.crc32) (s.responses ++ [[0x00]])) := rfl

theorem exec_crc32Read :
    exec .crc32Read s = .next (s.withCrc32 s.crc32 (s.responses ++ [0x00 :: le32 (s.crc32 ^^^ 0xFFFFFFFF)])) := rfl

theorem exec_crc16Init : exec .crc16Init s = .next (s.withCrc16 0x0000 (s.responses ++ [[0x00]])) := rfl

theorem exec_crc16Feed :
    exec (.crc16Feed d) s = .next (s.withCrc16 (d.foldl crc16Step s.crc16) (s.responses ++ [[0x00]])) := rfl

theorem exec_crc16Read :
    exec .crc16Read s = .next (s.withCrc16 s.crc16 (s.responses ++ [0x00 :: le16 s.crc16])) := rfl

end

/-! ### A CRC fed in pieces, for either generator

`st c responses` is the state whose register of the one generator is `c`, and `stepByte` the generator's byte step. -/

section

variable {α : Type} {st : α → List (List Byte) → State} {stepByte : α → Byte → α} {feed : List Byte → Instr}

/-- Feeds one after the other step the register through the concatenation, each with the response 00. -/
theorem execList_feeds
    (hfeed : ∀ c rs d, exec (feed d) (st c rs) = .next (st (d.foldl stepByte c) (rs ++ [[0x00]])))
    (chunks : List (List Byte)) (rest : List Instr) (c : α) (rs : List (List Byte)) :
    execList (chunks.map feed ++ rest) (st c rs) =
      execList rest (st (chunks.flatten.foldl stepByte c) (rs ++ List.replicate chunks.length [0x00])) := by
  induction chunks generalizing c rs with
  | nil => simp
  | cons d chunks ih =>
    calc execList (feed d :: (chunks.map feed ++ rest)) (st c rs)
      _ = execList (chunks.map feed ++ rest) (st (d.foldl stepByte c) (rs ++ [[0x00]])) := by
        simp only [execList, hfeed]
      _ = execList rest (st ((d :: chunks).flatten.foldl stepByte c)
            (rs ++ List.replicate (d :: chunks).length [0x00])) := by
        rw [ih, List.flatten_cons, List.foldl_append, List.append_assoc, List.length_cons, List.replicate_succ,
          List.singleton_append]

/-- The same between an operation that loads the register and one that answers `out` of it. -/
theorem execList_init_feeds_read {init read : Instr} {s : State} {c₀ : α} {out : α → List Byte}
    (hinit : exec init s = .next (st c₀ (s.responses ++ [[0x00]])))
    (hfeed : ∀ c rs d, exec (feed d) (st c rs) = .next (st (d.foldl stepByte c) (rs ++ [[0x00]])))
    (hread : ∀ c rs, exec read (st c rs) = .next (st c (rs ++ [0x00 :: out c])))
    (chunks : List (List Byte)) :
    execList (init :: (chunks.map feed ++ [read])) s =
      .next (st (chunks.flatten.foldl stepByte c₀) (s.responses ++ List.replicate (chunks.length + 1) [0x00] ++
        [0x00 :: out (chunks.flatten.foldl stepByte c₀)])) := by
  calc execList (init :: (chunks.map feed ++ [read])) s
    _ = execList (chunks.map feed ++ [read]) (st c₀ (s.responses ++ [[0x00]])) := by simp only [execList, hinit]
    _ = execList [read] (st (chunks.flatten.foldl stepByte c₀)
          (s.responses ++ List.replicate (chunks.length + 1) [0x00])) := by
      rw [execList_feeds hfeed, List.append_assoc, List.singleton_append, ← List.replicate_succ]
    _ = _ := by simp only [execList, hread]

end

/-- The register of CRC-32 is the complement of the finished CRC (R121). -/
theorem crc32Of_xor_ones (data : List Byte) : crc32Of data ^^^ 0xFFFFFFFF = data.foldl crc32Step 0xFFFFFFFF := by
  rw [crc32Of, crc32Ones, BitVec.xor_assoc, BitVec.xor_self, BitVec.xor_zero]

/-- Settles O20, for each generator by its INIT, FEED and READ. -/
theorem runningCrcIsTheWholeCrc : Obligations.RunningCrcIsTheWholeCrc := by
  refine ⟨fun s chunks => ?crc32, fun s chunks => ?crc16⟩
  case crc32 =>
    rw [crc32Of_xor_ones]
    exact execList_init_feeds_read (st := s.withCrc32) (out := fun c => le32 (c ^^^ 0xFFFFFFFF))
      (exec_crc32Init s) (fun _ _ d => exec_crc32Feed _ d) (fun _ _ => exec_crc32Read _) chunks
  case crc16 =>
    exact execList_init_feeds_read (st := s.withCrc16) (out := le16)
      (exec_crc16Init s) (fun _ _ d => exec_crc16Feed _ d) (fun _ _ => exec_crc16Read _) chunks

/-! ### CRC-32, operation by operation -/

/-- The CRC of the empty string is 0 (R121). -/
theorem le32_complement_ones : le32 (0xFFFFFFFF ^^^ 0xFFFFFFFF) = [0x00, 0x00, 0x00, 0x00] := by decide

/-- Settles O11: the second INIT loads what stands there already, and READ answers the complement of all ones. -/
theorem crc32InitLoadsOnes : Obligations.Crc32InitLoadsOnes := by
  refine ⟨rfl, fun _ hargs => decodeRequest_f0_badLength rfl hargs,
    fun s => ⟨_, exec_crc32Init s, rfl, exec_crc32Init _, ?read⟩⟩
  case read =>
    rw [exec_crc32Read, State.withCrc32_crc32, le32_complement_ones]
    rfl

/-- The byte step is eight bit steps (R120). -/
theorem crc32Step_eq_bits (c : Word) (b : Byte) :
    crc32Step c b = crc32Bit (crc32Bit (crc32Bit (crc32Bit (crc32Bit (crc32Bit (crc32Bit (crc32Bit
      (c ^^^ b.setWidth 32)))))))) := rfl

/-- The register after the nine bytes "123456789" (R120). -/
theorem crc32_check_register :
    [0x31, 0x32, 0x33, 0x34, 0x35, 0x36, 0x37, 0x38, 0x39].foldl crc32Step 0xFFFFFFFF = 0x340BC6D9 := by
  simp [crc32Step, repeatN, crc32Bit, crc32Poly]

/-- Settles O12; the check value is the complement of the register after the nine bytes. -/
theorem crc32UpdateStepsOneByte : Obligations.Crc32UpdateStepsOneByte := by
  refine ⟨fun _ => rfl, fun _ hargs => decodeRequest_f1_badLength rfl hargs, exec_crc32Update, crc32Step_eq_bits,
    ?check, by decide, by decide, by decide⟩
  case check =>
    rw [crc32_check_register]
    decide

theorem crc32_of_feed {s t : State} {d : List Byte} (h : exec (.crc32Feed d) s = .next t) :
    t.crc32 = d.foldl crc32Step s.crc32 := by
  rw [exec_crc32Feed] at h
  cases h
  exact State.withCrc32_crc32 ..

/-- Settles O13; feeds compose because a fold over `x ++ y` is the fold over `x`, then over `y`. -/
theorem crc32FeedFoldsTheBytes : Obligations.Crc32FeedFoldsTheBytes := by
  refine ⟨fun _ hd => decodeRequest_counted rfl hd, fun _ hargs => decodeRequest_fn_badLength rfl hargs,
    exec_crc32Feed, fun s => exec_crc32Feed s [], ?compose, crc32_check_register⟩
  case compose =>
    intro s t u v x y ht hu hv
    rw [crc32_of_feed hu, crc32_of_feed ht, crc32_of_feed hv, List.foldl_append]

/-- Settles O14. -/
theorem crc32ReadAnswersTheComplement : Obligations.Crc32ReadAnswersTheComplement :=
  ⟨rfl, fun _ hargs => decodeRequest_f0_badLength rfl hargs, exec_crc32Read, le32_complement_ones, by decide⟩

/-! ### CRC-16, operation by operation -/

/-- Settles O15. -/
theorem crc16InitLoadsZero : Obligations.Crc16InitLoadsZero :=
  ⟨rfl, fun _ hargs => decodeRequest_f0_badLength rfl hargs, exec_crc16Init, rfl⟩

theorem crc16_of_feed {s t : State} {d : List Byte} (h : exec (.crc16Feed d) s = .next t) :
    t.crc16 = d.foldl crc16Step s.crc16 := by
  rw [exec_crc16Feed] at h
  cases h
  exact State.withCrc16_crc16 ..

/-- Settles O17, as O13. -/
theorem crc16FeedFoldsTheBytes : Obligations.Crc16FeedFoldsTheBytes := by
  refine ⟨fun _ hd => decodeRequest_counted rfl hd, fun _ hargs => decodeRequest_fn_badLength rfl hargs,
    exec_crc16Feed, fun s => exec_crc16Feed s [], ?compose, by decide⟩
  case compose =>
    intro s t u v x y ht hu hv
    rw [crc16_of_feed hu, crc16_of_feed ht, crc16_of_feed hv, List.foldl_append]

/-- Settles O18. -/
theorem crc16ReadAnswersTheRegister : Obligations.Crc16ReadAnswersTheRegister :=
  ⟨rfl, fun _ hargs => decodeRequest_f0_badLength rfl hargs, exec_crc16Read, by decide⟩

end Sys2Proof.Machine
end

section
/-! The frame encoder, the frame buffer and PARSE (41_frame_codec.md): the DCS and the built frame, what the writers of
the frame buffer store and refuse, what reads it back, and the parser's rules. -/

namespace Sys2Proof

/-! ### Requests of another length than the format's, for the formats with an address (R82, R83) -/

section

variable {opc : Byte} {args : List Byte} {mk : List Byte → Instr}

theorem decodeRequest_f4_badLength (hrow : hostRow opc = some (.f4, mk)) (hargs : args.length ≠ 4) :
    decodeRequest (opc :: args) = .error .badLength :=
  decodeRequest_wrongLength hrow (by simpa [Format.requestLength] using hargs)

theorem decodeRequest_f4b_badLength (hrow : hostRow opc = some (.f4b, mk)) (hargs : args.length ≠ 5) :
    decodeRequest (opc :: args) = .error .badLength :=
  decodeRequest_wrongLength hrow (by simpa [Format.requestLength] using hargs)

theorem decodeRequest_f4n_badLength (hrow : hostRow opc = some (.f4n, mk))
    (hargs : args.length ≠ 6 + (rd16 args 4).toNat) : decodeRequest (opc :: args) = .error .badLength := by
  refine decodeRequest_wrongLength hrow ?_
  rw [List.length_cons, Format.requestLength, rd16_cons_succ]
  omega

end

end Sys2Proof

namespace Sys2Proof.Machine

open Sys2Proof

/-! ### The DCS and the frame around a payload (R160 to R162) -/

theorem dcsFor_dcs (p : List Byte) : DcsFor p (dcs p) := by
  rw [DcsFor, dcs_toNat]
  omega

/-- Settles O22: the DCS as a number is the sum's remainder taken from 256. -/
theorem dcsMakesTheSumZero : Obligations.DcsMakesTheSumZero := by
  intro p
  refine ⟨dcsFor_dcs p, ?value, fun hsum => ?zero⟩
  case value =>
    have hcast : (p.map fun b => (b.toNat : Int)).sum = ((p.map fun b => b.toNat).sum : Nat) := by
      rw [Nat.cast_list_sum, List.map_map]
      rfl
    rw [dcs_toNat, hcast]
    omega
  case zero =>
    apply BitVec.eq_of_toNat_eq
    rw [dcs_toNat, hsum]
    rfl

/-- `Build(cmd, data)` is the frame of R88 around `Hdr(cmd) ++ data`. -/
theorem frameFor_build (cmd : Byte) (data : List Byte) : FrameFor (requestPayload cmd data) (build cmd data) :=
  ⟨dcs (requestPayload cmd data), dcsFor_dcs _, List.append_assoc ..⟩

/-! ### What the six writers of the frame buffer store and refuse (R163 to R170) -/

/-- What fits is stored from index 0 on, and its length becomes the valid length and the answer. -/
theorem exec_stores {s : State} {i : Instr} {f : List Byte} {n : Nat} (hi : storedFrame s i = some f)
    (hlen : f.length = n) (hfits : n ≤ s.params.txCap.toNat) :
    ∃ m, exec i s = .next ((s.setFrame m (lenHalf n)).respond (le16 (lenHalf n))) ∧ s.frameBuf.Replaced m f := by
  subst hlen
  obtain ⟨m, hstore, hin, hout, -, -⟩ := storeFrame_fits hfits
  exact ⟨m, by rw [exec_storedFrame hi, hstore], hin, hout⟩

/-- The same for an operation that stores a built frame. -/
theorem exec_storesBuilt {s : State} {i : Instr} {cmd : Byte} {data : List Byte} {n : Nat}
    (hi : storedFrame s i = some (build cmd data)) (hlen : (build cmd data).length = n)
    (hfits : n ≤ s.params.txCap.toNat) :
    ∃ m f, FrameFor (requestPayload cmd data) f ∧ f.length = n ∧
      exec i s = .next ((s.setFrame m (lenHalf n)).respond (le16 (lenHalf n))) ∧ s.frameBuf.Replaced m f := by
  obtain ⟨m, hx, hm⟩ := exec_stores hi hlen hfits
  exact ⟨m, build cmd data, frameFor_build cmd data, hlen, hx, hm⟩

/-- What exceeds TX_CAP is refused. -/
theorem exec_refuses {s : State} {i : Instr} {f : List Byte} (hi : storedFrame s i = some f)
    (hlong : s.params.txCap.toNat < f.length) : exec i s = .next (s.fail .badValue) := by
  rw [exec_storedFrame hi, storeFrame_tooLong hlong]

/-- The frames of fixed length fit whatever the legal parameters are (00_scope.md R6). -/
theorem le_txCap_of_legal {p : Params} {n : Nat} (h : p.Legal) (hn : n ≤ 796) : n ≤ p.txCap.toNat := by
  obtain ⟨-, htx, -⟩ := h
  omega

theorem SameRx.refl (s : State) : SameRx s s := ⟨rfl, fun _ => rfl⟩

theorem SameResult.refl (s : State) : SameResult s s := ⟨rfl, rfl, rfl, rfl⟩

theorem SameProgress.refl (s : State) : SameProgress s s := ⟨rfl, rfl, rfl, rfl, rfl, rfl⟩

/-- Settles O31: a writer refuses, or stores below the frame's length and answers. -/
theorem encoderOperationsFrame : Obligations.EncoderOperationsFrame := by
  intro s t i f hi hx
  rw [exec_storedFrame hi] at hx
  rcases storeFrame_cases hx with ⟨-, rfl⟩ | ⟨hfits, m, rfl, -, hout, -, -⟩
  · exact ⟨⟨.refl s, .refl s, .refl s, .refl s, .refl s, rfl, rfl⟩, fun _ _ => rfl, fun _ => .refl s⟩
  · exact ⟨⟨.refl s, .refl s, .refl s, .refl s, .refl s, rfl, rfl⟩, hout,
      fun hlong => absurd hfits (Nat.not_le.mpr hlong)⟩

/-! ### The ENC_ operations -/

/-- Settles O23: the frame has no operand, so its bytes, DCS included, come by evaluation. -/
theorem encResetBuildsItsFrame : Obligations.EncResetBuildsItsFrame :=
  ⟨rfl, fun _ hargs => decodeRequest_f0_badLength rfl hargs, fun _ hlegal =>
    exec_stores (n := 23) (i := .encReset) rfl rfl (le_txCap_of_legal hlegal (by decide))⟩

/-- Settles O27, as O23. -/
theorem encReadUuidBuildsItsFrame : Obligations.EncReadUuidBuildsItsFrame :=
  ⟨rfl, fun _ hargs => decodeRequest_f0_badLength rfl hargs, fun _ hlegal =>
    exec_stores (n := 23) (i := .encReadUuid) rfl rfl (le_txCap_of_legal hlegal (by decide))⟩

/-- Settles O24; the DCS of the worked frame is 0x0A. -/
theorem encEraseBuildsItsFrame : Obligations.EncEraseBuildsItsFrame :=
  ⟨fun a c => decodeRequest_encode (i := .encErase a c) rfl rfl, fun _ hargs => decodeRequest_f4b_badLength rfl hargs,
    fun _ a c hlegal => exec_storesBuilt (n := 28) (i := .encErase a c) rfl rfl (le_txCap_of_legal hlegal (by decide)),
    0x0A, rfl, rfl⟩

/-- Settles O26; the DCS of the worked frame is 0x09. -/
theorem encReadHeaderBuildsItsFrame : Obligations.EncReadHeaderBuildsItsFrame :=
  ⟨fun a => decodeRequest_encode (i := .encReadHeader a) rfl rfl, fun _ hargs => decodeRequest_f4_badLength rfl hargs,
    fun _ a hlegal => exec_storesBuilt (n := 27) (i := .encReadHeader a) rfl rfl (le_txCap_of_legal hlegal (by decide)),
    0x09, rfl, rfl⟩

/-- The page count is clamped to a byte, so it is sent unchanged (R167). -/
theorem pageCount_toNat (n : Nat) (ppt : Byte) : (pageCount n ppt).toNat = min ((n + 255) / 256) ppt.toNat := by
  have hppt := ppt.isLt
  simp only [pageCount, pageSize, BitVec.toNat_ofNat]
  omega

theorem build_program_length (a : Word) (pc : Byte) (d : List Byte) :
    (build cmdProgram (le32 a ++ [pc] ++ d)).length = 28 + d.length := by
  simp only [build_length, List.length_append, le32_length, List.length_singleton]
  omega

/-- Settles O25; the DCS of the worked frame is 0x77, and CFG_WRITE is none of the operations that write the frame buffer. -/
theorem encProgramBuildsItsFrameOrRefuses : Obligations.EncProgramBuildsItsFrameOrRefuses := by
  refine ⟨fun a d hd => ?decode, fun _ hargs => decodeRequest_f4n_badLength rfl hargs, fun s a d hlong => ?refused,
    fun s a d hfits => ?stored, fun s t u a d idx v _ hwrite => ?kept, 0x77, rfl, rfl⟩
  case decode =>
    rw [List.append_assoc]
    exact decodeRequest_encProgram a hd
  case refused => exact exec_refuses (i := .encProgram a d) rfl (by rwa [build_program_length])
  case stored =>
    obtain ⟨m, f, hf⟩ := exec_storesBuilt (i := .encProgram a d) rfl (build_program_length ..) hfits
    exact ⟨m, f, _, pageCount_toNat .., hf⟩
  case kept =>
    rcases (exec_writtenBy hwrite).frame with hsame | ⟨f, hf⟩
    · exact hsame
    · cases hf

/-! ### Sending what the frame buffer holds (42_correlator.md R222) -/

theorem exec_xactStart_noFrame {s : State} (w : Word) (hc : s.cstate ≠ .waiting) (hlen : s.frameLen = 0) :
    exec (.xactStart w) s = .next (s.fail .noFrame) := by
  simp only [exec, execXactStart, if_neg hc, if_pos hlen]

theorem exec_xactStart_sends {s : State} {f : List Byte} (w : Word) (hc : s.cstate ≠ .waiting)
    (hlen : s.frameLen ≠ 0) (hf : s.frameBytes = .ok f) :
    exec (.xactStart w) s = .next (((s.emit f).arm (timeoutOperand w s)).respond []) := by
  simp only [exec, execXactStart, if_neg hc, if_neg hlen, hf]

/-! ### FRAME_LOAD and FRAME_READ -/

/-- Settles O28; after an empty load the valid length is 0. -/
theorem frameLoadStoresTheBytesOrRefuses : Obligations.FrameLoadStoresTheBytesOrRefuses := by
  refine ⟨fun _ hd => decodeRequest_counted rfl hd, fun _ hargs => decodeRequest_fn_badLength rfl hargs,
    fun s d hlong => exec_refuses rfl hlong, fun s d hfits => exec_stores rfl rfl hfits, fun s t w hc hload => ?empty⟩
  case empty =>
    obtain ⟨m, hx, -⟩ := exec_stores (s := s) (i := .frameLoad []) rfl rfl (Nat.zero_le _)
    rw [hx] at hload
    cases hload
    exact exec_xactStart_noFrame w hc rfl

/-- The answer of FRAME_READ, where the valid bytes are all there. -/
theorem exec_frameRead {s : State} {bs : List Byte} (hbs : s.frameBytes = .ok bs) :
    exec .frameRead s = .next (s.respond (le16 (lenHalf bs.length) ++ bs)) := by
  simp only [exec, execFrameRead, hbs, answerBytes]

theorem lenHalf_of_toNat (v : Half) : lenHalf v.toNat = v := by
  rw [lenHalf, BitVec.ofNat_toNat, BitVec.setWidth_eq]

/-- The valid bytes of a buffer in which none of them is missing. -/
theorem bufReadN_of_covers {len : Half} {m : Memory} (h : m.Covers len.toNat) :
    ∃ bs, bufReadN len m 0 len.toNat = .ok bs ∧ bs.length = len.toNat ∧
      ∀ k (hk : k < bs.length), m.read k = some bs[k] := by
  obtain ⟨bs, hbs⟩ := bufReadN_total (i := 0) (n := len.toNat) (by omega) h
  obtain ⟨hlen, hread⟩ := bufReadN_ok.mp hbs
  exact ⟨bs, hbs, hlen, fun k hk => by simpa using (hread k hk).2⟩

/-- Settles O29: the bytes below the valid length are all there, so the read gives them. -/
theorem frameReadAnswersTheFrame : Obligations.FrameReadAnswersTheFrame := by
  refine ⟨rfl, fun _ hargs => decodeRequest_f0_badLength rfl hargs, fun s hcovers => ?answer, rfl⟩
  case answer =>
    obtain ⟨bs, hbs, hlen, hread⟩ := bufReadN_of_covers hcovers
    have hx := exec_frameRead (s := s) hbs
    rw [hlen, lenHalf_of_toNat] at hx
    exact ⟨bs, hlen, hread, hx⟩

/-- Settles O30: the bytes of the next state's frame buffer are the frame stored. -/
theorem storedFrameIsReadBack : Obligations.StoredFrameIsReadBack := by
  intro s t i f hi hfits hx
  have h16 : f.length ≤ 65535 := by have := s.params.txCap.isLt; omega
  obtain ⟨m, hstore, hin, -⟩ := exec_stores hi rfl hfits
  rw [hstore] at hx
  cases hx
  have hbytes : ((s.setFrame m (lenHalf f.length)).respond (le16 (lenHalf f.length))).frameBytes = .ok f := by
    rw [frameBytes_respond, frameBytes_setFrame h16 hin]
  refine ⟨exec_frameRead hbytes, fun w hc hne => ⟨_, exec_xactStart_sends w hc ?nonempty hbytes, rfl⟩⟩
  case nonempty =>
    intro hzero
    have hlen : (lenHalf f.length).toNat = 0 := congrArg BitVec.toNat hzero
    rw [lenHalf_toNat h16] at hlen
    exact hne (List.length_eq_zero_iff.mp hlen)

/-! ### The parser and PARSE (R173 to R177) -/

/-- The sum check of R175, on bytes as numbers. -/
theorem byteSum_add_ne_zero_iff (p : List Byte) (d : Byte) :
    byteSum p + d ≠ 0 ↔ ((p.map fun b => b.toNat).sum + d.toNat) % 256 ≠ 0 := by
  rw [BitVec.toNat_ne, BitVec.toNat_add, byteSum_toNat, Nat.mod_add_mod]
  rfl

/-- Settles O33: the header search finds the first header or none, and from there on the rules are the parser's own. -/
theorem parserFollowsItsRules : Obligations.ParserFollowsItsRules := by
  refine ⟨fun s hnone => ?none, fun s h hfirst => ?first⟩
  case none => simp only [parseFrame, findHeader_none.mpr hnone]
  case first =>
    simp only [parseFrame, findHeader_some.mpr hfirst, validate, byteSum_add_ne_zero_iff]

theorem exec_parse_tooLong {s : State} {d : List Byte} (h : s.params.rxCap.toNat < d.length) :
    exec (.parse d) s = .next (s.fail .badValue) := by
  simp only [exec, execParse, if_pos h]

theorem exec_parse_fits {s : State} {d : List Byte} (h : d.length ≤ s.params.rxCap.toNat) :
    exec (.parse d) s = .next (s.respond (parseAnswer (parseFrame d))) := by
  simp only [exec, execParse, if_neg (Nat.not_lt.mpr h)]

/-- Settles O35, by what the bytes parse to. -/
theorem parseAnswersTheParseResult : Obligations.ParseAnswersTheParseResult := by
  refine ⟨fun _ hd => decodeRequest_counted rfl hd, fun _ hargs => decodeRequest_fn_badLength rfl hargs,
    fun _ _ hlong => exec_parse_tooLong hlong, fun s d hfits => ?answer, rfl, by decide⟩
  case answer =>
    rw [exec_parse_fits hfits]
    cases parseFrame d with
    | waitHeader | waitBody | complete | badTerminator | badChecksum | tooShort => rfl

end Sys2Proof.Machine
end

section
/-! The transport correlator (42_correlator.md): its host operations, the byte and the tick it takes, and which parts of
the state each of them leaves. -/

namespace Sys2Proof.Machine

open Sys2Proof

/-! ### XACT_START and XACT_STATUS (R222, R223) -/

theorem exec_xactStart_busy {s : State} (w : Word) (hw : s.cstate = .waiting) :
    exec (.xactStart w) s = .next (s.fail .busy) := by
  simp only [exec, execXactStart, if_pos hw]

/-- Settles O36, by the cases of XACT_START; where the buffer holds its frame, the frame can be read. -/
theorem xactStartSendsAndArms : Obligations.XactStartSendsAndArms := by
  refine ⟨fun w => decodeRequest_encode (i := .xactStart w) rfl rfl, fun _ hargs => decodeRequest_f4_badLength rfl hargs,
    fun _ w hw => exec_xactStart_busy w hw, fun _ w hc hlen => exec_xactStart_noFrame w hc hlen,
    fun s w hc hlen hcovers => ?sends⟩
  case sends =>
    obtain ⟨f, hf, hflen, hread⟩ := bufReadN_of_covers hcovers
    exact ⟨f, hflen, hread, exec_xactStart_sends w hc hlen hf⟩

/-- Settles O44: a refusal is an answer alone, and what is armed is the correlator. -/
theorem xactStartFrame : Obligations.XactStartFrame := by
  intro s t w hx
  rcases execXactStart_cases hx with ⟨-, rfl⟩ | ⟨-, -, rfl⟩ | ⟨hc, hlen, f, -, rfl⟩
  · exact ⟨.refl s, .refl s, .refl s, rfl, fun _ => rfl, fun _ => ⟨.refl s, .refl s, .refl s, rfl⟩⟩
  · exact ⟨.refl s, .refl s, .refl s, rfl, fun _ => rfl, fun _ => ⟨.refl s, .refl s, .refl s, rfl⟩⟩
  · exact ⟨.refl s, .refl s, .refl s, rfl, fun _ => rfl, fun hrefused => absurd hrefused (not_or.mpr ⟨hc, hlen⟩)⟩

/-- Settles O37: the codes are functions of the two registers. -/
theorem xactStatusAnswersTheRegisters : Obligations.XactStatusAnswersTheRegisters := by
  refine ⟨rfl, fun _ hargs => decodeRequest_f0_badLength rfl hargs, fun s => ⟨s.cstate.code, s.outcome.code, rfl, ?codes⟩,
    fun _ hinv hw => hinv.outcome_of_waiting hw, rfl⟩
  case codes =>
    have hc {c : CState} (h : s.cstate = c) : s.cstate.code = c.code := congrArg CState.code h
    have ho {o : XactOutcome} (h : s.outcome = o) : s.outcome.code = o.code := congrArg XactOutcome.code h
    exact ⟨hc, hc, hc, ho, ho, ho, ho, ho, ho, ho⟩

/-! ### XACT_READ_FRAME (R225) -/

theorem hasFrame_iff (o : XactOutcome) : o.hasFrame = true ↔ o = .success ∨ o = .commandError := by
  cases o <;> simp [XactOutcome.hasFrame]

theorem slice_length (s : List Byte) (a n : Nat) : (slice s a n).length = min n (s.length - a) := by
  rw [slice, List.length_take, List.length_drop]

theorem validate_complete {s : List Byte} {h len h' len' : Nat} {cmd result : Byte}
    (hv : validate s h len = .complete h' len' cmd result) : h' = h ∧ len' = len := by
  unfold validate at hv
  dsimp only at hv
  split_ifs at hv
  cases hv
  exact ⟨rfl, rfl⟩

/-- A complete frame stands in the string with all of its `L + 7` bytes (41_frame_codec.md R174). -/
theorem parseFrame_complete_le {s : List Byte} {h len : Nat} {cmd result : Byte}
    (hp : parseFrame s = .complete h len cmd result) : h + 7 + len ≤ s.length := by
  unfold parseFrame at hp
  split at hp
  · cases hp
  · dsimp only at hp
    split_ifs at hp with hheader hbody
    obtain ⟨rfl, rfl⟩ := validate_complete hp
    exact Nat.le_of_not_lt hbody

theorem exec_xactReadFrame_noFrame {s : State} (ho : ¬ s.outcome.hasFrame = true) :
    exec .xactReadFrame s = .next (s.fail .noFrame) := by
  simp only [exec, execXactReadFrame, if_neg ho]

theorem exec_xactReadFrame {s : State} {bs : List Byte} {h len : Nat} {cmd result : Byte}
    (ho : s.outcome.hasFrame = true) (hbs : s.rxBytes = .ok bs) (hp : parseFrame bs = .complete h len cmd result) :
    exec .xactReadFrame s = .next (s.respond (le16 (lenHalf (len + 7)) ++ slice bs h (len + 7))) := by
  have hle := parseFrame_complete_le hp
  have hlen : (slice bs h (len + 7)).length = len + 7 := by rw [slice_length]; omega
  simp only [exec, execXactReadFrame, if_pos ho, State.rxFrame, hbs, hp, answerBytes, hlen]

/-- Settles O39: in a sound state the received bytes bear out an outcome that a frame gave. -/
theorem xactReadFrameAnswersTheFrame : Obligations.XactReadFrameAnswersTheFrame := by
  refine ⟨rfl, fun _ hargs => decodeRequest_f0_badLength rfl hargs, fun s hsuccess herror => ?none, fun s hinv ho => ?frame⟩
  case none => exact exec_xactReadFrame_noFrame (mt (hasFrame_iff _).mp (not_or.mpr ⟨hsuccess, herror⟩))
  case frame =>
    have hframe : s.outcome.hasFrame = true := (hasFrame_iff _).mpr ho
    obtain ⟨bs, hbs, -, hcomplete, -, -⟩ := hinv.received
    obtain ⟨⟨h, len, hp⟩, -⟩ := hcomplete hframe
    exact ⟨bs, h, len, _, _, hbs, hp, exec_xactReadFrame hframe hbs hp⟩

/-! ### RX_BYTE (R226) -/

theorem step_of_rxByte {s : State} {b : Byte} {rest : List Input} (hin : s.inputs = .rxByte b :: rest) :
    step s = runFetched (fetchByte b (s.withInputs rest)) := by
  simp only [step, fetch, hin]

theorem fetchByte_dropped {s : State} (b : Byte) (hw : s.cstate ≠ .waiting) : fetchByte b s = .done s := by
  simp only [fetchByte, if_neg hw]

theorem fetchByte_overflow {s : State} (b : Byte) (hw : s.cstate = .waiting) (hfull : s.rxLen = s.params.rxCap) :
    fetchByte b s = .done (s.countByte.mark flagOverflow) := by
  simp only [fetchByte, if_pos hw, if_pos hfull]

/-- A byte that finds room is stored, and the transaction goes on or ends by what all the stored bytes parse to. -/
theorem fetchByte_stored {s : State} {b : Byte} {bs : List Byte} (hw : s.cstate = .waiting)
    (hlt : s.rxLen.toNat < s.params.rxCap.toNat)
    (hbs : (s.countByte.setRx (s.rxBuf.write s.rxLen.toNat b) (s.rxLen + 1)).rxBytes = .ok bs) :
    runFetched (fetchByte b s) =
      .next (afterParse (parseFrame bs) (s.countByte.setRx (s.rxBuf.write s.rxLen.toNat b) (s.rxLen + 1))) := by
  have hroom : s.rxLen ≠ s.params.rxCap := fun he => by simp [he] at hlt
  have hstore : s.storeByte b = .ok (s.countByte.setRx (s.rxBuf.write s.rxLen.toNat b) (s.rxLen + 1)) := by
    simp only [State.storeByte, bufWrite_of_lt b hlt]
  simp only [fetchByte, if_pos hw, if_neg hroom, hstore, hbs]
  exact runFetched_classify hw

/-- Settles O40; the stored bytes are the old ones and the new one, since the length does not wrap. -/
theorem rxByteIsCountedStoredAndClassified : Obligations.RxByteIsCountedStoredAndClassified := by
  refine ⟨satInc_toNat, fun s b rest hin => ⟨fun hw => ?dropped, fun hw hfull => ?overflow, fun bs hw hlt hbs => ?stored⟩⟩
  case dropped =>
    rw [step_of_rxByte hin, fetchByte_dropped b (s := s.withInputs rest) hw]
    rfl
  case overflow =>
    rw [step_of_rxByte hin, fetchByte_overflow b (s := s.withInputs rest) hw hfull]
    rfl
  case stored =>
    have hsnoc := bufReadN_snoc b (by have := s.params.rxCap.isLt; omega) hbs
    refine ⟨hsnoc, ?_⟩
    rw [step_of_rxByte hin, fetchByte_stored (s := s.withInputs rest) hw hlt hsnoc]
    cases parseFrame (bs ++ [b]) with
    | complete | badChecksum | badTerminator | tooShort | waitHeader | waitBody => rfl

/-! ### TICK (R227, R228) -/

theorem step_of_tick {s : State} {rest : List Input} (hin : s.inputs = .tick :: rest) :
    step s = runFetched (fetchedOf (s.withInputs rest).tick) := by
  simp only [step, fetch, hin]

/-- Where `n` bytes can be read from an index on, so can the first `k` of them. -/
theorem bufReadN_take {len : Half} {m : Memory} {i n k : Nat} {bs : List Byte} (h : bufReadN len m i n = .ok bs)
    (hk : k ≤ n) : bufReadN len m i k = .ok (bs.take k) := by
  obtain ⟨hlen, hread⟩ := bufReadN_ok.mp h
  refine bufReadN_ok.mpr ⟨by rw [List.length_take]; omega, fun j hj => ?_⟩
  have hj' : j < bs.length := by rw [List.length_take] at hj; omega
  rw [List.getElem_take]
  exact hread j hj'

/-- `Desync(S)` of R228, `bs` being the stored bytes. -/
abbrev Desynchronised (s : State) (bs : List Byte) : Prop :=
  s.xGrace ≠ 0 ∧ 3 ≤ s.rxLen.toNat ∧ slice bs 0 3 ≠ frameHeader ∧ s.xGrace.toNat ≤ s.silence.toNat

theorem desync_of_rxBytes {s : State} {bs : List Byte} (hbs : s.rxBytes = .ok bs) :
    s.desync = .ok (decide (Desynchronised s bs)) := by
  unfold State.desync
  split
  · next hc =>
    obtain ⟨hgrace, hthree, hsilence⟩ := hc
    have hread : bufReadN s.rxLen s.rxBuf 0 3 = .ok (slice bs 0 3) := bufReadN_take hbs hthree
    have hiff : slice bs 0 3 ≠ frameHeader ↔ Desynchronised s bs :=
      ⟨fun hne => ⟨hgrace, hthree, hne, hsilence⟩, fun ⟨_, _, hne, _⟩ => hne⟩
    simp only [hread, decide_eq_decide.mpr hiff]
  · next hc =>
    have hnot : ¬ Desynchronised s bs := fun ⟨hgrace, hthree, _, hsilence⟩ => hc ⟨hgrace, hthree, hsilence⟩
    rw [decide_eq_false hnot]

/-- The timeout is tested first, then the desynchronisation, both after the increments. -/
theorem tick_of_waiting {s : State} {bs : List Byte} (hw : s.cstate = .waiting) (hbs : s.rxBytes = .ok bs) :
    s.tick = .ok (
      if s.xTimeout.toNat ≤ (satInc s.elapsed).toNat then s.countTick.finish (timeoutOutcome s.rxTotal)
      else if Desynchronised s.countTick bs then (s.countTick.finish .timeout).mark flagDesync
      else s.countTick) := by
  have hdesync : s.countTick.desync = .ok (decide (Desynchronised s.countTick bs)) := desync_of_rxBytes hbs
  simp only [State.tick, if_pos hw, State.expire, hdesync, State.countTick_xTimeout, State.countTick_elapsed,
    State.countTick_rxTotal]
  split
  · rfl
  · by_cases hd : Desynchronised s.countTick bs
    · rw [decide_eq_true hd, if_pos hd]
    · rw [decide_eq_false hd, if_neg hd]

theorem tick_of_not_waiting {s : State} (hw : s.cstate ≠ .waiting) : s.tick = .ok s := by
  simp only [State.tick, if_neg hw]

/-- Settles O41, by the two tests of a tick. -/
theorem tickCountsAndEndsTheTransaction : Obligations.TickCountsAndEndsTheTransaction := by
  refine ⟨satInc_toNat, fun s rest hin => ⟨fun hw => ?dropped, fun bs hw hbs => ?waiting⟩⟩
  case dropped =>
    rw [step_of_tick hin, tick_of_not_waiting (s := s.withInputs rest) hw]
    rfl
  case waiting =>
    rw [step_of_tick hin, tick_of_waiting (s := s.withInputs rest) hw hbs, State.withInputs_xTimeout,
      State.withInputs_elapsed]
    refine ⟨fun hle => ?timeout, fun hlt hd => ?desync, fun hlt hd => ?goesOn⟩
    case timeout =>
      rw [if_pos hle]
      rfl
    case desync =>
      have hdesync : Desynchronised (s.withInputs rest).countTick bs := hd
      rw [if_neg (Nat.not_le.mpr hlt), if_pos hdesync]
      rfl
    case goesOn =>
      have hdesync : ¬ Desynchronised (s.withInputs rest).countTick bs := hd
      rw [if_neg (Nat.not_le.mpr hlt), if_neg hdesync]
      rfl

/-! ### What a byte and a tick leave -/

@[simp] theorem afterParse_inputs (r : ParseResult) (s : State) : (afterParse r s).inputs = s.inputs := by
  cases r <;> rfl

@[simp] theorem afterParse_responses (r : ParseResult) (s : State) : (afterParse r s).responses = s.responses := by
  cases r <;> rfl

@[simp] theorem afterParse_xTimeout (r : ParseResult) (s : State) : (afterParse r s).xTimeout = s.xTimeout := by
  cases r <;> rfl

@[simp] theorem afterParse_xGrace (r : ParseResult) (s : State) : (afterParse r s).xGrace = s.xGrace := by
  cases r <;> rfl

@[simp] theorem afterParse_rxBuf (r : ParseResult) (s : State) : (afterParse r s).rxBuf = s.rxBuf := by
  cases r <;> rfl

/-- Beside the parts no event writes: the inputs still to come, the responses, the latched values, and every stored byte
but the one at `rx_len` (10_state.md R28, R36). -/
structure EventLeaves (s t : State) : Prop extends SameHostSide s t where
  inputs : t.inputs = s.inputs
  responses : t.responses = s.responses
  xTimeout : t.xTimeout = s.xTimeout
  xGrace : t.xGrace = s.xGrace
  stored : ∀ a, a ≠ s.rxLen.toNat → t.rxBuf.read a = s.rxBuf.read a

theorem fetchByte_leaves {b : Byte} {s t : State} (h : runFetched (fetchByte b s) = .next t) : EventLeaves s t := by
  have hhost := fetchByte_sameHostSide h
  rcases fetchByte_cases h with ⟨-, rfl⟩ | ⟨-, -, rfl⟩ | ⟨-, -, -, bs, -, rfl⟩
  · exact ⟨hhost, rfl, rfl, rfl, rfl, fun _ _ => rfl⟩
  · exact ⟨hhost, rfl, rfl, rfl, rfl, fun _ _ => rfl⟩
  · refine ⟨hhost, by simp, by simp, by simp, by simp, fun a ha => ?_⟩
    rw [afterParse_rxBuf]
    exact Memory.read_write_other _ b ha

theorem tick_leaves {s t : State} (h : s.tick = .ok t) : EventLeaves s t ∧ SameRx s t := by
  have hhost := tick_sameHostSide h
  rcases tick_cases h with ⟨-, rfl⟩ | ⟨-, -, rfl⟩ | ⟨-, -, -, rfl⟩ | ⟨-, -, -, rfl⟩ <;>
    exact ⟨⟨hhost, rfl, rfl, rfl, rfl, fun _ _ => rfl⟩, .refl _⟩

theorem tick_of_step {s t : State} {rest : List Input} (hin : s.inputs = .tick :: rest) (h : step s = .next t) :
    (s.withInputs rest).tick = .ok t := by
  rw [step_of_tick hin] at h
  cases ht : (s.withInputs rest).tick with
  | error e => simp [ht, fetchedOf, runFetched] at h
  | ok u => simpa [ht, fetchedOf, runFetched] using h

/-- Settles O43, by the event taken. -/
theorem eventsFrame : Obligations.EventsFrame := by
  intro s t e rest hin he hstep
  obtain ⟨hleaves, hrx⟩ : EventLeaves (s.withInputs rest) t ∧ (e = .tick → SameRx s t) := by
    rcases he with rfl | ⟨b, rfl⟩
    · obtain ⟨hleaves, hrx⟩ := tick_leaves (tick_of_step hin hstep)
      exact ⟨hleaves, fun _ => hrx⟩
    · rw [step_of_rxByte hin] at hstep
      exact ⟨fetchByte_leaves hstep, nofun⟩
  exact ⟨hleaves.crc, hleaves.config, hleaves.frame, hleaves.tx, hleaves.inputs, hleaves.responses, hleaves.xTimeout,
    hleaves.xGrace, hleaves.stored, hrx⟩

/-! ### The transitions of the correlator state (R220) -/

theorem afterParse_cstate (r : ParseResult) (s : State) :
    (afterParse r s).cstate = s.cstate ∨ (afterParse r s).cstate = .done := by
  cases r with
  | waitHeader | waitBody => exact .inl rfl
  | complete | badChecksum | badTerminator | tooShort => exact .inr rfl

theorem fetchByte_cstate {b : Byte} {s t : State} (h : runFetched (fetchByte b s) = .next t) :
    t.cstate = s.cstate ∨ (s.cstate = .waiting ∧ t.cstate = .done) := by
  rcases fetchByte_cases h with ⟨-, rfl⟩ | ⟨-, -, rfl⟩ | ⟨hw, -, -, bs, -, rfl⟩
  · exact .inl rfl
  · exact .inl rfl
  · exact (afterParse_cstate _ _).imp_right fun hdone => ⟨hw, hdone⟩

theorem tick_cstate {s t : State} (h : s.tick = .ok t) :
    t.cstate = s.cstate ∨ (s.cstate = .waiting ∧ t.cstate = .done) := by
  rcases tick_cases h with ⟨-, rfl⟩ | ⟨hw, -, rfl⟩ | ⟨hw, -, -, rfl⟩ | ⟨-, -, -, rfl⟩
  · exact .inl rfl
  · exact .inr ⟨hw, rfl⟩
  · exact .inr ⟨hw, rfl⟩
  · exact .inl rfl

theorem storeFrame_cstate {f : List Byte} {s t : State} (h : storeFrame f s = .next t) : t.cstate = s.cstate := by
  rcases storeFrame_cases h with ⟨-, rfl⟩ | ⟨-, m, rfl, -⟩ <;> rfl

theorem configWrite_cstate {idx : Byte} {v : Word} {s u : State} (h : configWrite idx v s = some u) :
    u.cstate = s.cstate := by
  rcases configWrite_cases h with ⟨-, -, rfl⟩ | ⟨-, -, rfl⟩ | ⟨-, rfl⟩ <;> rfl

theorem execXactStart_cstate {w : Word} {s t : State} (h : execXactStart w s = .next t) :
    t.cstate = s.cstate ∨ (s.cstate ≠ .waiting ∧ s.frameLen ≠ 0 ∧ t.cstate = .waiting) := by
  rcases execXactStart_cases h with ⟨-, rfl⟩ | ⟨-, -, rfl⟩ | ⟨hc, hlen, f, -, rfl⟩
  · exact .inl rfl
  · exact .inl rfl
  · exact .inr ⟨hc, hlen, rfl⟩

/-- Of the host operations only XACT_START moves the correlator state. -/
theorem exec_cstate {i : Instr} {s t : State} (hi : i.space = .host) (h : exec i s = .next t) :
    t.cstate = s.cstate ∨
      ∃ w, i = .xactStart w ∧ s.cstate ≠ .waiting ∧ s.frameLen ≠ 0 ∧ t.cstate = .waiting := by
  rcases exec_cases h with ⟨r, rfl⟩ | ⟨-, c, rfl⟩ | ⟨-, c, rfl⟩ | ⟨f, -, hx⟩ | ⟨w, rfl, hx⟩ |
    ⟨idx, v, u, rfl, hu, rfl⟩ | ⟨hwire, -⟩
  · exact .inl rfl
  · exact .inl rfl
  · exact .inl rfl
  · exact .inl (storeFrame_cstate hx)
  · exact (execXactStart_cstate hx).imp_right fun hstart => ⟨w, rfl, hstart⟩
  · exact .inl (configWrite_cstate hu : u.cstate = s.cstate)
  · cases hi.symm.trans hwire

/-- Settles O45, by the six things a step can be. -/
theorem correlatorMovesOnlyAlongItsTransitions : Obligations.CorrelatorMovesOnlyAlongItsTransitions := by
  intro s t h
  refine ⟨decide_eq_true_iff, ?_⟩
  rcases step_cases h with ⟨-, rfl⟩ | ⟨q, rest, i, hin, hd, hx⟩ | ⟨q, rest, st, -, -, rfl⟩ | ⟨b, rest, hin, hx⟩ |
    ⟨rest, hin, hx⟩ | ⟨rest, hin, rfl⟩
  · exact .inl rfl
  · rcases exec_cstate (decodeRequest_space hd) hx with hsame | ⟨w, rfl, hc, hlen, hwaiting⟩
    · exact .inl hsame
    · exact .inr (.inl ⟨hc, ⟨w, q, rest, hin, hd⟩, hlen, hwaiting⟩)
  · exact .inl rfl
  · rcases fetchByte_cstate hx with hsame | ⟨hw, hdone⟩
    · exact .inl hsame
    · exact .inr (.inr (.inl ⟨hw, ⟨b, rest, hin⟩, hdone⟩))
  · rcases tick_cstate hx with hsame | ⟨hw, hdone⟩
    · exact .inl hsame
    · exact .inr (.inr (.inr (.inl ⟨hw, ⟨rest, hin⟩, hdone⟩)))
  · exact .inr (.inr (.inr (.inr ⟨⟨rest, hin⟩, rfl⟩)))

end Sys2Proof.Machine
end

section
/-! The configuration registers (43_config.md): what CFG_READ answers, what CFG_WRITE sets and refuses, and what both
leave. -/

namespace Sys2Proof

theorem decodeRequest_f1w_badLength {opc : Byte} {args : List Byte} {mk : List Byte → Instr}
    (hrow : hostRow opc = some (.f1w, mk)) (hargs : args.length ≠ 5) :
    decodeRequest (opc :: args) = .error .badLength :=
  decodeRequest_wrongLength hrow (by simpa [Format.requestLength] using hargs)

end Sys2Proof

namespace Sys2Proof.Machine

open Sys2Proof

/-! ### CFG_READ (R280, R286) -/

/-- There is no register from index 5 on (R280). -/
theorem configValue_eq_none {idx : Byte} (s : State) (hidx : 5 ≤ idx.toNat) : configValue idx s = none := by
  unfold configValue
  split
  case h_6 => rfl
  all_goals exact absurd hidx (by decide)

theorem exec_cfgRead_of_some {idx : Byte} {s : State} {v : Word} (h : configValue idx s = some v) :
    exec (.cfgRead idx) s = .next (s.respond (le32 v)) := by
  simp only [exec, execCfgRead, h]

theorem exec_cfgRead_of_none {idx : Byte} {s : State} (h : configValue idx s = none) :
    exec (.cfgRead idx) s = .next (s.fail .badValue) := by
  simp only [exec, execCfgRead, h]

/-- Settles O50, by whether the index has a register. -/
theorem cfgReadAnswersTheRegister : Obligations.CfgReadAnswersTheRegister := by
  refine ⟨fun _ => rfl, fun _ hargs => decodeRequest_f1_badLength rfl hargs, fun s => ⟨?ppt, ?timeout, ?grace, ?rxCap,
    ?txCap, fun _ hidx => exec_cfgRead_of_none (configValue_eq_none s hidx)⟩, ?reset⟩
  case ppt | timeout | grace | rxCap | txCap => exact exec_cfgRead_of_some rfl
  case reset => exact exec_cfgRead_of_some (s := State.reset) (idx := 1) rfl

/-! ### CFG_WRITE (R285, R287) -/

/-- The legal values of PPT are told by the whole 32 bits (R285). -/
theorem legalPpt_iff (v : Word) : (v = 1 ∨ v = 2 ∨ v = 3) ↔ 1 ≤ v.toNat ∧ v.toNat ≤ 3 := by
  bv_omega

/-- What is stored is the low byte of a legal value. -/
theorem configWrite_ppt {v : Word} (s : State) (hv : 1 ≤ v.toNat ∧ v.toNat ≤ 3) :
    configWrite 0 v s = some (s.setPpt (BitVec.ofNat 8 v.toNat)) :=
  if_pos ((legalPpt_iff v).mpr hv)

theorem configWrite_timeout {v : Word} (s : State) (hv : v ≠ 0) : configWrite 1 v s = some (s.setCfgTimeout v) :=
  if_neg hv

theorem configWrite_grace (s : State) (v : Word) : configWrite 2 v s = some (s.setCfgGrace v) := rfl

/-- What R287 refuses: an index that cannot be written, or a value that is not legal for its register. -/
def RefusedConfigWrite (idx : Byte) (v : Word) : Prop :=
  5 ≤ idx.toNat ∨ idx = 3 ∨ idx = 4 ∨ (idx = 0 ∧ ¬ (1 ≤ v.toNat ∧ v.toNat ≤ 3)) ∨ (idx = 1 ∧ v = 0)

theorem configWrite_eq_none {idx : Byte} {v : Word} (s : State) (h : RefusedConfigWrite idx v) :
    configWrite idx v s = none := by
  rcases h with hidx | rfl | rfl | ⟨rfl, hv⟩ | ⟨rfl, hv⟩
  · unfold configWrite
    split
    case h_4 => rfl
    all_goals exact absurd hidx (by decide)
  · rfl
  · rfl
  · exact if_neg (mt (legalPpt_iff v).mp hv)
  · exact if_pos hv

theorem exec_cfgWrite_of_some {idx : Byte} {v : Word} {s u : State} (h : configWrite idx v s = some u) :
    exec (.cfgWrite idx v) s = .next (u.respond []) := by
  simp only [exec, execCfgWrite, h]

theorem exec_cfgWrite_of_none {idx : Byte} {v : Word} {s : State} (h : configWrite idx v s = none) :
    exec (.cfgWrite idx v) s = .next (s.fail .badValue) := by
  simp only [exec, execCfgWrite, h]

/-- Settles O51, by the legal values of each register. -/
theorem cfgWriteSetsLegalValuesOnly : Obligations.CfgWriteSetsLegalValuesOnly := by
  refine ⟨fun idx v => decodeRequest_encode (i := .cfgWrite idx v) rfl rfl,
    fun _ hargs => decodeRequest_f1w_badLength rfl hargs, fun s v => ⟨fun hv => ?ppt, fun hv => ?timeout, ?grace⟩,
    fun s _ _ hrefused => exec_cfgWrite_of_none (configWrite_eq_none s hrefused)⟩
  case ppt => exact exec_cfgWrite_of_some (configWrite_ppt s hv)
  case timeout => exact exec_cfgWrite_of_some (configWrite_timeout s hv)
  case grace => exact exec_cfgWrite_of_some (configWrite_grace s v)

/-! ### What both leave (10_state.md R24 to R26) -/

/-- A configuration operation writes its own register at most and answers once. -/
theorem exec_config {i : Instr} {s t : State} (hi : (∃ idx, i = .cfgRead idx) ∨ ∃ idx v, i = .cfgWrite idx v)
    (hx : exec i s = .next t) :
    ∃ ppt timeout grace r,
      t = { s with ppt := ppt, cfgTimeout := timeout, cfgGrace := grace, responses := s.responses ++ [r] } ∧
      (ppt = s.ppt ∨ ∃ v, i = .cfgWrite 0 v) ∧ (timeout = s.cfgTimeout ∨ ∃ v, i = .cfgWrite 1 v) ∧
      (grace = s.cfgGrace ∨ ∃ v, i = .cfgWrite 2 v) := by
  rcases hi with ⟨idx, rfl⟩ | ⟨idx, v, rfl⟩
  · cases hval : configValue idx s with
    | some a =>
      cases (exec_cfgRead_of_some hval).symm.trans hx
      exact ⟨_, _, _, _, rfl, .inl rfl, .inl rfl, .inl rfl⟩
    | none =>
      cases (exec_cfgRead_of_none hval).symm.trans hx
      exact ⟨_, _, _, _, rfl, .inl rfl, .inl rfl, .inl rfl⟩
  · cases hu : configWrite idx v s with
    | some u =>
      cases (exec_cfgWrite_of_some hu).symm.trans hx
      rcases configWrite_cases hu with ⟨rfl, -, rfl⟩ | ⟨rfl, -, rfl⟩ | ⟨rfl, rfl⟩
      · exact ⟨_, _, _, _, rfl, .inr ⟨v, rfl⟩, .inl rfl, .inl rfl⟩
      · exact ⟨_, _, _, _, rfl, .inl rfl, .inr ⟨v, rfl⟩, .inl rfl⟩
      · exact ⟨_, _, _, _, rfl, .inl rfl, .inl rfl, .inr ⟨v, rfl⟩⟩
    | none =>
      cases (exec_cfgWrite_of_none hu).symm.trans hx
      exact ⟨_, _, _, _, rfl, .inl rfl, .inl rfl, .inl rfl⟩

/-- Settles O52, by what a configuration operation writes. -/
theorem configOperationsFrame : Obligations.ConfigOperationsFrame := by
  intro s t i hi hx
  obtain ⟨ppt, timeout, grace, r, rfl, hppt, htimeout, hgrace⟩ := exec_config hi hx
  exact ⟨⟨.refl s, .refl s, .refl s, .refl s, .refl s, rfl, rfl, rfl⟩, hppt, htimeout, hgrace, r, rfl⟩

end Sys2Proof.Machine
end

section
/-! Refusals and the end of a transaction (60_exceptions.md): a response other than OK comes with no other change
(R301), and what a transaction has left stays until the next XACT_START or reset (R304). -/

namespace Sys2Proof.Machine

open Sys2Proof

/-! ### Refusals (R301) -/

/-- Settles O9: the one answer is a refusal, which changes nothing else, or begins with OK. -/
theorem refusalsArePrecise : Obligations.RefusalsArePrecise := by
  intro s t q rest hin hstep
  rcases step_request_answeredOnce hin hstep with ⟨st, rfl⟩ | ⟨u, bytes, -, hresponses, rfl⟩
  · exact ⟨[st.code], rfl, List.cons_ne_nil _ _, fun _ => ⟨rfl, rfl⟩⟩
  · have hadded : (u.respond bytes).responses = s.responses ++ [Status.ok.code :: bytes] := by
      rw [State.respond_responses, hresponses, State.withInputs_responses]
    exact ⟨Status.ok.code :: bytes, hadded, List.cons_ne_nil _ _, fun hrefused => absurd rfl hrefused⟩

/-! ### What a transaction has left (R304) -/

/-- Everything the correlator holds of a transaction: its classification, its counters and latched values, and the
received bytes. -/
def SameTransaction (s t : State) : Prop := SameResult s t ∧ SameProgress s t ∧ SameRx s t

theorem SameTransaction.refl (s : State) : SameTransaction s s := ⟨.refl s, .refl s, .refl s⟩

theorem storeFrame_sameTransaction {f : List Byte} {s t : State} (h : storeFrame f s = .next t) :
    SameTransaction s t := by
  rcases storeFrame_cases h with ⟨-, rfl⟩ | ⟨-, m, rfl, -⟩ <;> exact .refl s

theorem configWrite_sameTransaction {idx : Byte} {v : Word} {s u : State} (h : configWrite idx v s = some u) :
    SameTransaction s u := by
  rcases configWrite_cases h with ⟨-, -, rfl⟩ | ⟨-, -, rfl⟩ | ⟨-, rfl⟩ <;> exact .refl s

/-- Of the host operations only XACT_START writes what the correlator holds. -/
theorem exec_sameTransaction {i : Instr} {s t : State} (hi : i.space = .host) (h : exec i s = .next t) :
    (∃ w, i = .xactStart w) ∨ SameTransaction s t := by
  rcases exec_cases h with ⟨r, rfl⟩ | ⟨-, c, rfl⟩ | ⟨-, c, rfl⟩ | ⟨f, -, hx⟩ | ⟨w, rfl, -⟩ |
    ⟨idx, v, u, rfl, hu, rfl⟩ | ⟨hwire, -⟩
  · exact .inr (.refl s)
  · exact .inr (.refl s)
  · exact .inr (.refl s)
  · exact .inr (storeFrame_sameTransaction hx)
  · exact .inl ⟨w, rfl⟩
  · exact .inr (configWrite_sameTransaction hu : SameTransaction s u)
  · cases hi.symm.trans hwire

/-- Outside WAITING a step writes it only by an XACT_START or a reset: bytes are dropped and ticks are not counted
(R226, R227). -/
theorem step_sameTransaction {s t : State} (hw : s.cstate ≠ .waiting) (h : step s = .next t) :
    NextStarts s ∨ NextResets s ∨ SameTransaction s t := by
  rcases step_cases h with ⟨-, rfl⟩ | ⟨q, rest, i, hin, hd, hx⟩ | ⟨q, rest, st, -, -, rfl⟩ | ⟨b, rest, -, hx⟩ |
    ⟨rest, -, hx⟩ | ⟨rest, hin, -⟩
  · exact .inr (.inr (.refl _))
  · rcases exec_sameTransaction (decodeRequest_space hd) hx with ⟨w, rfl⟩ | hsame
    · exact .inl ⟨w, q, rest, hin, hd⟩
    · exact .inr (.inr hsame)
  · exact .inr (.inr (.refl s))
  · rw [fetchByte_dropped (s := s.withInputs rest) b hw] at hx
    cases hx
    exact .inr (.inr (.refl s))
  · rw [tick_of_not_waiting (s := s.withInputs rest) hw] at hx
    cases hx
    exact .inr (.inr (.refl s))
  · exact .inr (.inl ⟨rest, hin⟩)

/-- Settles O49: DONE is outside WAITING. -/
theorem outcomeIsHeldInDone : Obligations.OutcomeIsHeldInDone := by
  intro s t hdone hstep
  have hw : s.cstate ≠ .waiting := by simp [hdone]
  exact step_sameTransaction hw hstep

end Sys2Proof.Machine
end

section
/-! Reset and hazards (70_reset_and_hazards.md): what a waiting transaction latches stays (R347), and the reset input
loads the reset values (R340). -/

namespace Sys2Proof.Machine

open Sys2Proof

/-! ### The latched values (R36, R347) -/

/-- The timeout and grace that XACT_START latches. -/
def SameLatched (s t : State) : Prop := t.xTimeout = s.xTimeout ∧ t.xGrace = s.xGrace

theorem SameLatched.refl (s : State) : SameLatched s s := ⟨rfl, rfl⟩

theorem SameTransaction.latched {s t : State} (h : SameTransaction s t) : SameLatched s t := by
  obtain ⟨-, ⟨-, -, -, -, htimeout, hgrace⟩, -⟩ := h
  exact ⟨htimeout, hgrace⟩

theorem EventLeaves.latched {s t : State} (h : EventLeaves s t) : SameLatched s t := ⟨h.xTimeout, h.xGrace⟩

/-- XACT_START, which alone latches, is refused as BUSY while a transaction waits. -/
theorem exec_latched_of_waiting {i : Instr} {s t : State} (hi : i.space = .host) (hw : s.cstate = .waiting)
    (h : exec i s = .next t) : SameLatched s t := by
  rcases exec_sameTransaction hi h with ⟨w, rfl⟩ | hsame
  · cases (exec_xactStart_busy w hw).symm.trans h
    exact .refl s
  · exact hsame.latched

/-- Settles O48, by the six things a step can be. -/
theorem latchedValuesStayWhileWaiting : Obligations.LatchedValuesStayWhileWaiting := by
  intro s t hw h
  rcases step_cases h with ⟨-, rfl⟩ | ⟨q, rest, i, -, hd, hx⟩ | ⟨q, rest, st, -, -, rfl⟩ | ⟨b, rest, -, hx⟩ |
    ⟨rest, -, hx⟩ | ⟨rest, hin, -⟩
  · exact .inr (SameLatched.refl _)
  · exact .inr (exec_latched_of_waiting (s := s.withInputs rest) (decodeRequest_space hd) hw hx)
  · exact .inr (SameLatched.refl s)
  · exact .inr (fetchByte_leaves hx).latched
  · obtain ⟨hleaves, -⟩ := tick_leaves hx
    exact .inr hleaves.latched
  · exact .inl ⟨rest, hin⟩

/-! ### The reset input (R340) -/

/-- Settles O53: the one step of the reset input takes the three configuration values from the parameters, which are the
defaults in the power-on state. -/
theorem resetInputLoadsTheResetValues : Obligations.ResetInputLoadsTheResetValues := by
  refine ⟨fun s rest hin hppt htimeout hgrace => ⟨[], [], ?anyState⟩, fun rest => ⟨[], [], ?powerOn⟩⟩
  case anyState =>
    rw [step_of_reset hin, ← hppt, ← htimeout, ← hgrace]
    rfl
  case powerOn => exact step_of_reset (s := State.reset.withInputs (.reset :: rest)) rfl

end Sys2Proof.Machine
end

section
/-! CRC-16 (40_crc.md): the table-driven byte step is eight bit steps (R122, R123), because a bit step is linear, and
what CRC16_UPDATE does (R131). -/

namespace Sys2Proof.Machine

open Sys2Proof

/-! ### The byte step in bit steps (R122, R123) -/

/-- The top bit alone decides whether the polynomial is xored in, so a bit step is linear. -/
theorem crc16Bit_xor (c d : Half) : crc16Bit (c ^^^ d) = crc16Bit c ^^^ crc16Bit d := by
  unfold crc16Bit
  rw [BitVec.getLsbD_xor, BitVec.shiftLeft_xor_distrib]
  cases c.getLsbD 15 <;> cases d.getLsbD 15
  case false.false => rfl
  case false.true => exact BitVec.xor_assoc ..
  case true.false =>
    calc c <<< 1 ^^^ d <<< 1 ^^^ crc16Poly
      _ = (c <<< 1 ^^^ crc16Poly) ^^^ d <<< 1 := by ac_rfl
  case true.true =>
    calc c <<< 1 ^^^ d <<< 1
      _ = c <<< 1 ^^^ d <<< 1 ^^^ (crc16Poly ^^^ crc16Poly) := by rw [BitVec.xor_self, BitVec.xor_zero]
      _ = (c <<< 1 ^^^ crc16Poly) ^^^ (d <<< 1 ^^^ crc16Poly) := by ac_rfl

theorem repeatN_crc16Bit_xor (n : Nat) (c d : Half) :
    repeatN crc16Bit n (c ^^^ d) = repeatN crc16Bit n c ^^^ repeatN crc16Bit n d := by
  induction n generalizing c d with
  | zero => rfl
  | succ n ih => rw [repeatN, crc16Bit_xor, ih]; rfl

theorem crc16Gen_xor (c d : Half) : crc16Gen (c ^^^ d) = crc16Gen c ^^^ crc16Gen d := repeatN_crc16Bit_xor 8 c d

/-- A bit step on a register whose top bit is 0 is a shift. -/
theorem crc16Bit_of_lt {c : Half} (h : c.toNat < 2 ^ 15) : crc16Bit c = c <<< 1 := by
  have htop : c.getLsbD 15 = false := by rw [BitVec.getLsbD, Nat.testBit_lt_two_pow h]
  rw [crc16Bit, htop, if_neg Bool.false_ne_true]

/-- Until a 1 reaches the top bit, so are several. -/
theorem repeatN_crc16Bit_of_lt {n : Nat} {c : Half} (h : c.toNat * 2 ^ n < 2 ^ 16) :
    repeatN crc16Bit n c = c <<< n := by
  induction n generalizing c with
  | zero => exact (BitVec.shiftLeft_zero c).symm
  | succ n ih =>
    rw [Nat.pow_succ', ← Nat.mul_assoc] at h
    have hlt : c.toNat < 2 ^ 15 := by
      have := Nat.le_mul_of_pos_right (c.toNat * 2) (Nat.two_pow_pos n)
      omega
    have hshift : (c <<< 1).toNat = c.toNat * 2 := by
      rw [BitVec.toNat_shiftLeft, Nat.shiftLeft_eq]
      omega
    calc repeatN crc16Bit n (crc16Bit c)
      _ = repeatN crc16Bit n (c <<< 1) := by rw [crc16Bit_of_lt hlt]
      _ = c <<< 1 <<< n := ih (by rwa [hshift])
      _ = c <<< (n + 1) := by rw [← BitVec.shiftLeft_add, Nat.add_comm]

theorem crc16Gen_setWidth (b : Byte) : crc16Gen (b.setWidth 16) = b.setWidth 16 <<< 8 := by
  refine repeatN_crc16Bit_of_lt ?_
  have := b.isLt
  rw [BitVec.toNat_setWidth_of_le (by omega)]
  omega

/-- The register with the byte xored into its high half: the index of the table entry above, the register's own low half
below. -/
theorem xor_byte_split (c : Half) (b : Byte) :
    c ^^^ (b.setWidth 16 <<< 8) =
      (((c >>> 8).setWidth 8 ^^^ b).setWidth 16 <<< 8) ^^^ (c.setWidth 8).setWidth 16 := by
  apply BitVec.eq_of_getLsbD_eq
  intro i hi
  by_cases h : i < 8
  · simp [h, hi]
  · simp [h, hi, show i - 8 < 8 by omega, show 8 + (i - 8) = i by omega]

theorem shiftLeft_low_half (c : Half) : (c.setWidth 8).setWidth 16 <<< 8 = c <<< 8 := by
  apply BitVec.eq_of_getLsbD_eq
  intro i hi
  by_cases h : i < 8
  · simp [h]
  · have hlow : i - 8 < 8 := by omega
    simp [h, hi, hlow, BitVec.getLsbD_eq_getElem (x := c) (show i - 8 < 16 by omega)]

/-- `g` takes the high half to its table entry and the low half to the high one (R122, R123). -/
theorem crc16Step_eq_gen (c : Half) (b : Byte) : crc16Step c b = crc16Gen (c ^^^ (b.setWidth 16 <<< 8)) := by
  rw [xor_byte_split, crc16Gen_xor, crc16Gen_setWidth, shiftLeft_low_half, BitVec.xor_comm]
  rfl

/-- Settles O19: the first equation is the step's definition, the second the linearity of `g`. -/
theorem crc16StepIsEightBitSteps : Obligations.Crc16StepIsEightBitSteps :=
  fun c b => ⟨rfl, crc16Step_eq_gen c b⟩

/-! ### CRC16_UPDATE (R131) -/

theorem exec_crc16Update (s : State) (b : Byte) :
    exec (.crc16Update b) s = .next (s.withCrc16 (crc16Step s.crc16 b) (s.responses ++ [[0x00]])) := rfl

/-- A zero byte steps a register of 0 to 0. -/
theorem crc16Step_zero : crc16Step 0x0000 0x00 = 0x0000 := by decide

theorem crc16Of_replicate_zero_append (k : Nat) (d : List Byte) :
    crc16Of (List.replicate k 0x00 ++ d) = crc16Of d := by
  induction k with
  | zero => rfl
  | succ k ih =>
    calc (List.replicate k 0x00 ++ d).foldl crc16Step (crc16Step crc16Zero 0x00)
      _ = crc16Of (List.replicate k 0x00 ++ d) := by rw [crc16Zero, crc16Step_zero]; rfl
      _ = crc16Of d := ih

/-- Settles O16. -/
theorem crc16UpdateStepsOneByte : Obligations.Crc16UpdateStepsOneByte :=
  ⟨fun _ => rfl, fun _ hargs => decodeRequest_f1_badLength rfl hargs, exec_crc16Update, crc16Step_zero,
    crc16Of_replicate_zero_append, by decide⟩

end Sys2Proof.Machine
end

section
/-! The parser's properties (41_frame_codec.md R178): a settled result stays when bytes are appended, and the frame an
ENC_ operation leaves parses back. -/

namespace Sys2Proof.Machine

open Sys2Proof

/-! ### Bytes that stand in a string still stand there when bytes are appended -/

theorem slice_append_left {s : List Byte} (x : List Byte) {a n : Nat} (h : a + n ≤ s.length) :
    slice (s ++ x) a n = slice s a n := by
  rw [slice, slice, List.drop_append_of_le_length (by omega),
    List.take_append_of_le_length (by rw [List.length_drop]; omega)]

theorem rd16_append_left {s : List Byte} (x : List Byte) {i : Nat} (h : i + 2 ≤ s.length) :
    rd16 (s ++ x) i = rd16 s i := by
  rw [rd16, rd16, byteAt_append_left x (by omega), byteAt_append_left x (by omega)]

theorem headerAt_append_iff {s : List Byte} (x : List Byte) {i : Nat} (h : i + 3 ≤ s.length) :
    HeaderAt (s ++ x) i ↔ HeaderAt s i := by
  have hx : i + 3 ≤ (s ++ x).length := by rw [List.length_append]; omega
  rw [HeaderAt, HeaderAt, slice_append_left x h, and_iff_right hx, and_iff_right h]

/-- The first header stays the first: it and every earlier index lie in the old bytes. -/
theorem findHeader_append {s : List Byte} (x : List Byte) {h : Nat} (hs : findHeader s = some h) :
    findHeader (s ++ x) = some h := by
  obtain ⟨hat, hfirst⟩ := findHeader_some.mp hs
  have hle : h + 3 ≤ s.length := hat.1
  exact findHeader_some.mpr ⟨(headerAt_append_iff x hle).mpr hat,
    fun j hj hj' => hfirst j hj ((headerAt_append_iff x (by omega)).mp hj')⟩

theorem validate_append {s : List Byte} (x : List Byte) {h len : Nat} (hbody : h + 7 + len ≤ s.length) :
    validate (s ++ x) h len = validate s h len := by
  rw [validate, validate, slice_append_left x (by omega), byteAt_append_left x (by omega),
    byteAt_append_left x (by omega)]

/-! ### What a settled parse result says of the string (R174) -/

/-- The header has been found, the body is there as long as the length field says, and has been validated. -/
theorem parseFrame_of_body {s : List Byte} {h : Nat} (hs : findHeader s = some h)
    (hbody : h + 7 + (rd16 s (h + 3)).toNat ≤ s.length) :
    parseFrame s = validate s h (rd16 s (h + 3)).toNat := by
  simp only [parseFrame, hs, if_neg (show ¬ s.length < h + 5 by omega), if_neg (Nat.not_lt.mpr hbody)]

theorem body_of_isSettled {s : List Byte} (hs : isSettled (parseFrame s) = true) :
    ∃ h, findHeader s = some h ∧ h + 7 + (rd16 s (h + 3)).toNat ≤ s.length := by
  unfold parseFrame at hs
  split at hs
  · cases hs
  · next h hfind =>
    dsimp only at hs
    split_ifs at hs with hheader hbody
    · cases hs
    · cases hs
    · exact ⟨h, hfind, Nat.le_of_not_lt hbody⟩

/-- Settles O34: header, length field and body all lie in the old bytes. -/
theorem settledParseStaysSettled : Obligations.SettledParseStaysSettled := by
  intro s x hs
  obtain ⟨h, hfind, hbody⟩ := body_of_isSettled hs
  have hlen : rd16 (s ++ x) (h + 3) = rd16 s (h + 3) := rd16_append_left x (by omega)
  have hbody' : h + 7 + (rd16 (s ++ x) (h + 3)).toNat ≤ (s ++ x).length := by
    rw [hlen, List.length_append]
    omega
  rw [parseFrame_of_body hfind hbody, parseFrame_of_body (findHeader_append x hfind) hbody', hlen,
    validate_append x hbody]

/-! ### The frames the ENC_ operations leave (R178) -/

/-- An ENC_ operation stores a built frame with its command code (R165 to R169). -/
theorem storedFrame_of_encodedCommand (s : State) {i : Instr} {cmd : Byte} (h : encodedCommand i = some cmd) :
    ∃ data, storedFrame s i = some (build cmd data) := by
  cases i with
  | encReset | encErase | encProgram | encReadHeader | encReadUuid => cases h; exact ⟨_, rfl⟩
  | _ => cases h

/-- The payload and the DCS, where a built frame holds them, sum to 0 modulo 256. -/
theorem dcsFor_wireFrame (cmd result reserved : Byte) (data : List Byte) :
    DcsFor (slice (wireFrame cmd result reserved data) 5 (16 + data.length))
      (byteAt (wireFrame cmd result reserved data) (5 + (16 + data.length))) := by
  rw [slice_wireFrame, dcs_wireFrame]
  exact dcsFor_dcs _

/-- Settles O32: what fits TX_CAP has a length that fits a u16, and a built frame of such a length parses COMPLETE. -/
theorem encodedFramesParseBack : Obligations.EncodedFramesParseBack := by
  intro s t i cmd hi hx
  obtain ⟨data, hstored⟩ := storedFrame_of_encodedCommand s hi
  rw [exec_storedFrame hstored] at hx
  rcases storeFrame_cases hx with ⟨-, rfl⟩ | ⟨hfits, m, rfl, hread, -⟩
  · exact .inl rfl
  · have h16 : (build cmd data).length ≤ 65535 := by have := s.params.txCap.isLt; omega
    have hlen : (build cmd data).length = 23 + data.length := build_length ..
    have hpayload : (build cmd data).length - 7 = 16 + data.length := by omega
    have hdcs : (build cmd data).length - 2 = 5 + (16 + data.length) := by omega
    refine .inr ⟨build cmd data, ?bytes, ?parse, ?sum⟩
    case bytes => rw [frameBytes_respond, frameBytes_setFrame h16 hread]
    case parse => rw [hpayload, build, parseFrame_wireFrame _ _ _ _ (by omega)]
    case sum => rw [hpayload, hdcs]; exact dcsFor_wireFrame ..

end Sys2Proof.Machine
end

section
/-! The correlator between its events (42_correlator.md): a waiting transaction ends within its timeout (R221), the wire
commands that end it (R226), what has no effect outside WAITING (60_exceptions.md R313), and XACT_READ_RX (R224). -/

namespace Sys2Proof.Machine

open Sys2Proof

/-! ### A waiting transaction ends (R221) -/

/-- The ticks left of the latched timeout. -/
def State.ticksLeft (s : State) : Nat := s.xTimeout.toNat - s.elapsed.toNat

theorem State.Inv.ticksLeft_pos {s : State} (h : s.Inv) (hw : s.cstate = .waiting) : 0 < s.ticksLeft :=
  Nat.sub_pos_of_lt (h.waiting hw)

/-- From a waiting state `s` to `t` the transaction has ended, or it waits with `n` ticks fewer left. -/
def EndsOrWaits (n : Nat) (s t : State) : Prop :=
  t.cstate = .done ∨ t.cstate = .waiting ∧ t.ticksLeft + n = s.ticksLeft

theorem SameProgress.endsOrWaits {s t : State} (h : SameProgress s t) (hw : s.cstate = .waiting) :
    EndsOrWaits 0 s t := by
  obtain ⟨hc, -, helapsed, -, htimeout, -⟩ := h
  exact .inr ⟨hc.trans hw, by rw [Nat.add_zero, State.ticksLeft, State.ticksLeft, helapsed, htimeout]⟩

theorem afterParse_endsOrWaits (r : ParseResult) {s : State} (hw : s.cstate = .waiting) :
    EndsOrWaits 0 s (afterParse r s) := by
  cases r with
  | waitHeader | waitBody => exact .inr ⟨hw, rfl⟩
  | complete | badChecksum | badTerminator | tooShort => exact .inl rfl

/-- A host request: XACT_START is refused as BUSY, and no other operation writes what the correlator holds. -/
theorem exec_endsOrWaits {i : Instr} {s t : State} (hi : i.space = .host) (hw : s.cstate = .waiting)
    (h : exec i s = .next t) : EndsOrWaits 0 s t := by
  rcases exec_sameTransaction hi h with ⟨w, rfl⟩ | ⟨-, hprogress, -⟩
  · cases (exec_xactStart_busy w hw).symm.trans h
    exact .inr ⟨hw, rfl⟩
  · exact hprogress.endsOrWaits hw

/-- RX_BYTE. -/
theorem fetchByte_endsOrWaits {b : Byte} {s t : State} (hw : s.cstate = .waiting)
    (h : runFetched (fetchByte b s) = .next t) : EndsOrWaits 0 s t := by
  rcases fetchByte_cases h with ⟨hne, -⟩ | ⟨-, -, rfl⟩ | ⟨-, -, -, bs, -, rfl⟩
  · exact absurd hw hne
  · exact .inr ⟨hw, rfl⟩
  · exact afterParse_endsOrWaits _ hw

/-- TICK: below the timeout the count of ticks does not saturate. -/
theorem tick_endsOrWaits {s t : State} (hw : s.cstate = .waiting) (h : s.tick = .ok t) : EndsOrWaits 1 s t := by
  rcases tick_cases h with ⟨hne, -⟩ | ⟨-, -, rfl⟩ | ⟨-, -, -, rfl⟩ | ⟨-, hlt, -, rfl⟩
  · exact absurd hw hne
  · exact .inl rfl
  · exact .inl rfl
  · refine .inr ⟨hw, ?_⟩
    have htimeout := s.xTimeout.isLt
    simp only [State.ticksLeft, State.countTick_xTimeout, State.countTick_elapsed]
    rw [satInc_toNat] at hlt ⊢
    omega

theorem AnsweredOnce.inputs {s t : State} (h : AnsweredOnce s t) : t.inputs = s.inputs := by
  rcases h with ⟨st, rfl⟩ | ⟨u, bytes, hinputs, -, rfl⟩
  · rfl
  · exact hinputs

/-- Any input but the reset input: it is taken, and a tick alone leaves one tick fewer. -/
theorem step_endsOrWaits {s t : State} {e : Input} {rest : List Input} (hin : s.inputs = e :: rest)
    (he : e ≠ .reset) (hw : s.cstate = .waiting) (h : step s = .next t) :
    t.inputs = rest ∧ EndsOrWaits (tickCount [e]) s t := by
  cases e with
  | request q =>
    refine ⟨(step_request_answeredOnce hin h).inputs, ?_⟩
    cases hd : decodeRequest q with
    | error st =>
      cases (step_of_refusedRequest hin hd).symm.trans h
      exact .inr ⟨hw, rfl⟩
    | ok i =>
      rw [stepRunsTheDecodedRequest s q rest i hin hd] at h
      exact exec_endsOrWaits (s := s.withInputs rest) (decodeRequest_space hd) hw h
  | rxByte b =>
    rw [step_of_rxByte hin] at h
    exact ⟨(fetchByte_leaves h).inputs, fetchByte_endsOrWaits (s := s.withInputs rest) hw h⟩
  | tick =>
    have ht := tick_of_step hin h
    obtain ⟨hleaves, -⟩ := tick_leaves ht
    exact ⟨hleaves.inputs, tick_endsOrWaits (s := s.withInputs rest) hw ht⟩
  | reset => exact absurd rfl he

theorem tickCount_cons (e : Input) (es : List Input) : tickCount (e :: es) = tickCount [e] + tickCount es := by
  cases e <;> simp [tickCount, Nat.add_comm]

theorem run_succ_of_next {M : Host.Core} {s t : M.State} (k : Nat) (h : M.step s = .next t) :
    M.run (k + 1) s = M.run k t := by
  simp only [Host.Core.run, h]

/-- Settles O46, by induction on the inputs before the end of the transaction; in a sound state every step reaches a
sound state, and with no tick left the transaction would not wait. -/
theorem transactionTerminates : Obligations.TransactionTerminates := by
  intro s es
  induction es generalizing s with
  | nil =>
    intro rest hinv hw _ _ hticks
    exact absurd (hinv.ticksLeft_pos hw) (Nat.not_lt.mpr hticks)
  | cons e es ih =>
    intro rest hinv hw hin hreset hticks
    obtain ⟨he, hes⟩ : .reset ≠ e ∧ .reset ∉ es := List.mem_cons.not.trans not_or |>.mp hreset
    obtain ⟨t, hstep⟩ := soundStateAlwaysSteps s hinv
    obtain ⟨hinputs, hdone | ⟨hwaits, hleft⟩⟩ := step_endsOrWaits hin he.symm hw hstep
    · exact ⟨1, t, Nat.le_add_left .., run_succ_of_next 0 hstep, hdone⟩
    · have hticks' : t.ticksLeft ≤ tickCount es := by
        rw [tickCount_cons] at hticks
        have : s.ticksLeft ≤ tickCount [e] + tickCount es := hticks
        omega
      obtain ⟨k, u, hk, hrun, hdone⟩ := ih t rest (stepKeepsSoundness s t hinv hstep) hwaits hinputs hes hticks'
      exact ⟨k + 1, u, Nat.succ_le_succ hk, (run_succ_of_next k hstep).trans hrun, hdone⟩

/-! ### Wire commands (30_encoding.md R91; log 4) -/

/-- What an accepted frame says: it is complete, and names a wire command. -/
theorem decodeFrame_ok {bs : List Byte} {i : Instr} (h : decodeFrame bs = .ok i) :
    ∃ hd len cmd result, parseFrame bs = .complete hd len cmd result ∧ wireInstr bs hd len cmd result = some i := by
  unfold decodeFrame at h
  split at h
  · next hd len cmd result hp =>
    split at h
    · next hi => cases h; exact ⟨hd, len, cmd, result, hp, hi⟩
    · cases h
  all_goals cases h

/-- Settles O7: both sides end the transaction as the complete frame says (R226). -/
theorem stepRunsTheCompletedWireCommand : Obligations.StepRunsTheCompletedWireCommand := by
  intro s b rest bs i hin hw hlt hbs hd
  obtain ⟨h, len, cmd, result, hp, hi⟩ := decodeFrame_ok hd
  have hsnoc := bufReadN_snoc b (by have := s.params.rxCap.isLt; omega) hbs
  rw [step_of_rxByte hin, fetchByte_stored (s := s.withInputs rest) hw hlt hsnoc, hp]
  exact (exec_wireInstr (s := (s.withInputs rest).countByte.setRx (s.rxBuf.write s.rxLen.toNat b) (s.rxLen + 1))
    hi hw).symm

/-- Settles O42: the five commands are one operation with five codes. -/
theorem wireCommandsEndTheTransaction : Obligations.WireCommandsEndTheTransaction := by
  intro s result reserved data
  refine ⟨fun hw => ?waiting, fun hw => ?other⟩
  case waiting =>
    have hends (cmd : Byte) : acceptCommand cmd result s = .next (s.complete cmd result) :=
      acceptCommand_waiting cmd result hw
    exact ⟨hends 0xCA, hends 0xCB, hends 0xCC, hends 0xCD, hends 0xCE⟩
  case other =>
    have hsame (cmd : Byte) : acceptCommand cmd result s = .next s := acceptCommand_other cmd result hw
    exact ⟨hsame 0xCA, hsame 0xCB, hsame 0xCC, hsame 0xCD, hsame 0xCE⟩

/-! ### Outside WAITING (60_exceptions.md R313) -/

/-- Settles O8: a byte is dropped and a tick is not counted outside WAITING; the step on no input is the model's own
(log 1). -/
theorem quiescentOutsideWaiting : Obligations.QuiescentOutsideWaiting := by
  refine ⟨fun s hin => ?noInput, fun s rest hc hin => ?event⟩
  case noInput => simp only [step, fetch, hin, runFetched]
  case event =>
    have hw : s.cstate ≠ .waiting := by rcases hc with hc | hc <;> simp [hc]
    rcases hin with ⟨b, hin⟩ | hin
    · rw [step_of_rxByte hin, fetchByte_dropped (s := s.withInputs rest) b hw]
      rfl
    · rw [step_of_tick hin, tick_of_not_waiting (s := s.withInputs rest) hw]
      rfl

/-! ### XACT_READ_RX (R224) -/

theorem exec_xactReadRx {s : State} {bs : List Byte} (hbs : s.rxBytes = .ok bs) :
    exec .xactReadRx s = .next (s.respond (le16 (lenHalf bs.length) ++ bs)) := by
  simp only [exec, execXactReadRx, hbs, answerBytes]

/-- Settles O38, as O29 for the frame buffer. -/
theorem xactReadRxAnswersTheStoredBytes : Obligations.XactReadRxAnswersTheStoredBytes := by
  refine ⟨rfl, fun _ hargs => decodeRequest_f0_badLength rfl hargs, fun s hcovers => ?answer⟩
  case answer =>
    obtain ⟨bs, hbs, hlen, hread⟩ := bufReadN_of_covers hcovers
    have hx := exec_xactReadRx (s := s) hbs
    rw [hlen, lenHalf_of_toNat] at hx
    exact ⟨bs, hlen, hread, hx⟩

end Sys2Proof.Machine
end
